-- ==== Sys2Proof/Word.lean ====
section
/-! DEFINITION. The word type of the 3120: sixteen bits, in the host window and in a station's register space. -/

namespace Sys2Proof

/-- A word of the host window, of a frame or of a station's register space (00_scope, Notational Conventions). -/
abbrev Word := BitVec 16

/-- An eight-bit field of a location or of a frame. -/
abbrev Byte := BitVec 8

end Sys2Proof
end

