-- ==== Sys2Proof/Config.lean ====
section
/-! DEFINITION. What the part fixes: the identification values and the capacities. The spec leaves no value of an
effect open, so there is no free value here; the configuration REGISTERS are state (Machine/State.lean). -/

namespace Sys2Proof.Config

/-- ID reads 3120h (R190). -/
def partCode : Word := 0x3120#16

/-- REVISION reads 0003h (R190). -/
def revision : Word := 0x0003#16

/-- The word a refused, deferred or failed aperture read returns (R145 to R150). -/
def allOnes : Word := 0xFFFF#16

/-- The staging data list holds at most 16 words (R7). -/
def stagingWords : Nat := 16

/-- The data pool of the Posted Store has 128 words (R98). -/
def poolWords : Nat := 128

/-- A posted entry holds at most 16 words (R99, R154). -/
def entryWords : Nat := 16

/-- At most four request entries have WINDOW origin (R147). -/
def windowQuota : Nat := 4

/-- The attention queue holds at most 32 items (R162). -/
def attentionItems : Nat := 32

/-- The occurrences field of an attention item saturates at 255 (R167). -/
def maxOccurrences : Nat := 255

/-- The fault list holds at most 8 records (R176). -/
def faultRecords : Nat := 8

/-- The dropped count saturates at 255 (R176). -/
def maxDropped : Nat := 255

/-- The busy count saturates at 255 (R87). -/
def maxBusy : Nat := 255

/-- Eight HIGH grants in a row may be made while LOW work waits (R96). -/
def starvationLimit : Nat := 8

/-- The data port position advances to at most 16 (R24). -/
def maxDataPosition : Nat := 16

end Sys2Proof.Config
end

