-- ==== Sys2Proof/Syntax.lean ====
section
/-! DEFINITION. The commands of the 3120: one constructor of `Instr` for each row of spec/opcode_table.json, with the
row's operands. A row is a host access, a pin change, a step of the link scheduler or of the exchange engine, an event
on the pair, or a timer expiry. -/

namespace Sys2Proof

/-- The tag of a request entry: its index in the Request Table, 0..15 (section 1.2). -/
abbrev Tag := Fin 16

/-- The index of a posted entry in the Posted Store, 0..15 (R98). -/
abbrev PostedIndex := Fin 16

/-- A station record: the station at address n, 1..14, is index n - 1 (R33). -/
abbrev StationId := Fin 14

/-- A member of a station queue: a reference to a request entry or a posted entry (R14). -/
inductive EntryRef where
  | request (t : Tag)
  | posted (p : PostedIndex)
  deriving DecidableEq, Repr

/-- What the receiver took from the pair between the first transition of a reception and its end (R54, R72): whether
it began with a correct start delimiter, whether it was free of coding violations, its whole words in the order
received (CRC word included), and how many bits were left over after the last whole word. -/
structure Reception where
  delimiterGood : Bool
  codingGood : Bool
  words : List Word
  extraBits : Nat
  deriving DecidableEq, Repr

/-- One constructor per row of spec/opcode_table.json, in the table's order. The rows that are a write of COMMAND take
their parameter from PARAMETER (R187), so they carry no operand. -/
inductive Instr where
  /-- SUBMIT: COMMAND write of 10h (R9). -/
  | submit
  /-- STAGE_CLEAR: COMMAND write of 11h (R8). -/
  | stageClear
  /-- CANCEL: COMMAND write of 12h (R26 to R28). -/
  | cancel
  /-- NEXT_COMPLETION: COMMAND write of 20h (R22). -/
  | nextCompletion
  /-- RELEASE: COMMAND write of 21h (R25). -/
  | release
  /-- NEXT_ATTENTION: COMMAND write of 22h (R171). -/
  | nextAttention
  /-- NEXT_FAULT: COMMAND write of 23h (R177). -/
  | nextFault
  /-- LINK_START: COMMAND write of 30h (R44). -/
  | linkStart
  /-- LINK_STOP: COMMAND write of 31h (R46). -/
  | linkStop
  /-- STATION_HOLD: COMMAND write of 40h (R39). -/
  | stationHold
  /-- STATION_RESUME: COMMAND write of 41h (R39). -/
  | stationResume
  /-- STATION_FLUSH: COMMAND write of 42h (R49). -/
  | stationFlush
  /-- STATION_REJOIN: COMMAND write of 43h (R48). -/
  | stationRejoin
  /-- CONTROLLER_RESET: COMMAND write of 7Eh (R51). -/
  | controllerReset
  /-- BAD_COMMAND: a COMMAND write whose code (the low byte) names no command (R187). -/
  | badCommand (code : Byte)
  /-- STAGE_DATA_WRITE: a write to STAGE DATA, location 0Fh (R7). -/
  | stageDataWrite (value : Word)
  /-- DATA_PORT_READ: a read of DATA PORT, location 13h (R24). -/
  | dataPortRead
  /-- INTERRUPT_CAUSE_WRITE: a write to location 1Dh (R180). -/
  | interruptCauseWrite (value : Word)
  /-- INTERRUPT_ENABLE_WRITE: a write to location 1Eh (R181). -/
  | interruptEnableWrite (value : Word)
  /-- WINDOW_STATUS_WRITE: a write to location 1Fh (R142). -/
  | windowStatusWrite (value : Word)
  /-- WINDOW_STATION_WRITE: a write to location 20h (R141). -/
  | windowStationWrite (value : Word)
  /-- PAGE_BASE_WRITE: a write to location 21h (R141). -/
  | pageBaseWrite (value : Word)
  /-- PREFETCH_WRITE: a write to location 22h (R141). -/
  | prefetchWrite (value : Word)
  /-- TIMEBASE_WRITE: a write to location 27h (R186). -/
  | timebaseWrite (value : Word)
  /-- REGISTER_WRITE: a write to any other location below the aperture (R184, R185, R188, R6). -/
  | registerWrite (location : BitVec 6) (value : Word)
  /-- APERTURE_READ: a read of location 30h + offset (R143). -/
  | apertureRead (offset : BitVec 4)
  /-- APERTURE_WRITE: a write of location 30h + offset (R153). -/
  | apertureWrite (offset : BitVec 4) (value : Word)
  /-- PIN_RESET: assertion of RESET (R192). -/
  | pinReset
  /-- RESET_RELEASE: release of RESET (R192). -/
  | resetRelease
  /-- HOLD_ASSERTED: the HOLD input becomes asserted (R97). -/
  | holdAsserted
  /-- HOLD_RELEASED: the HOLD input becomes deasserted (R97). -/
  | holdReleased
  /-- GRANT: the link scheduler makes a grant (R90). -/
  | grant
  /-- ENUMERATION_IDENTIFY_START: the enumeration pass starts its next IDENTIFY (R45). -/
  | enumerationIdentifyStart
  /-- FRAME_BEGIN: the pair has been quiet for two bit times and the frame begins (R53). -/
  | frameBegin
  /-- PAIR_ACTIVE_TIMEOUT: one reply window time has passed with the pair active and the frame begins (R53, R73). -/
  | pairActiveTimeout
  /-- FRAME_SENT: the last bit of a non-broadcast frame's CRC word is sent (R76). -/
  | frameSent
  /-- RECEPTION_BEGIN: the first transition on the pair while the reply window is open (R71). -/
  | receptionBegin
  /-- RECEPTION_END: the reception ends, with what was received (R72). -/
  | receptionEnd (received : Reception)
  /-- RECEPTION_OVERRUN: the reception is still in progress 323 bit times after its first transition (R72). -/
  | receptionOverrun
  /-- REPLY_WINDOW_CLOSE: the reply window time passes with no reception begun (R71). -/
  | replyWindowClose
  /-- BROADCAST_GAP_END: one reply window time after the last bit of a BROADCAST frame (R83). -/
  | broadcastGapEnd
  /-- DISCARDED_FRAME: a frame on the pair while no reply is awaited (R73). -/
  | discardedFrame (received : Reception)
  /-- BUSY_BACKOFF_EXPIRY: the busy backoff of a WAITING entry expires (R88). -/
  | busyBackoffExpiry (entry : EntryRef)
  /-- COLLECT_TIMER_EXPIRY: the collect timer of a PARKED entry runs out (R130). -/
  | collectTimerExpiry (tag : Tag)
  /-- PARK_TIMER_EXPIRY: the park timer of a PARKED entry expires (R131). -/
  | parkTimerExpiry (tag : Tag)
  /-- POLL_TIMER_EXPIRY: the poll timer of a station expires (R163). -/
  | pollTimerExpiry (station : StationId)
  /-- READ_HOLD_EXPIRY: the hold timer of a held aperture read expires (R150). -/
  | readHoldExpiry
  /-- WRITE_HOLD_EXPIRY: the hold timer of a held aperture write expires (R157). -/
  | writeHoldExpiry
  /-- DISCARD_TIMER_EXPIRY: the discard timer of a DONE window entry expires (R151). -/
  | discardTimerExpiry (tag : Tag)
  /-- HELD_READ_ANSWERED: the entry a read is held on is DONE and the read is answered (R149). -/
  | heldReadAnswered
  /-- HELD_WRITE_SPACE: posted space appears while an aperture write is held (R157). -/
  | heldWriteSpace
  /-- HELD_WRITE_STATION_LOST: the window station left ONLINE while an aperture write is held (R157). -/
  | heldWriteStationLost
  /-- DRAIN_END: the drain ends (R47). -/
  | drainEnd
  /-- BROADCAST_FRAME_SENT: the last bit of a BROADCAST frame's CRC word is sent (R83). -/
  | broadcastFrameSent
  deriving DecidableEq, Repr

end Sys2Proof
end

