-- ==== Sys2Proof/Decode.lean ====
section
/-! DEFINITION. The codes of the host commands (R187) and the decoder the host asks for. No row of
spec/opcode_table.json gives bits, so no word spells a command: `decodeTableWord` answers none for every word. -/

namespace Sys2Proof

/-- The fourteen commands that a write to COMMAND can name (R187). -/
inductive HostCommand where
  | submit | stageClear | cancel | nextCompletion | release | nextAttention | nextFault | linkStart | linkStop
  | stationHold | stationResume | stationFlush | stationRejoin | controllerReset
  deriving DecidableEq, Repr

/-- The code of each command, from the table of R187. -/
def commandCode : HostCommand → Byte
  | .submit => 0x10#8
  | .stageClear => 0x11#8
  | .cancel => 0x12#8
  | .nextCompletion => 0x20#8
  | .release => 0x21#8
  | .nextAttention => 0x22#8
  | .nextFault => 0x23#8
  | .linkStart => 0x30#8
  | .linkStop => 0x31#8
  | .stationHold => 0x40#8
  | .stationResume => 0x41#8
  | .stationFlush => 0x42#8
  | .stationRejoin => 0x43#8
  | .controllerReset => 0x7E#8

/-- Every command, in the order of the table of R187. -/
def allCommands : List HostCommand :=
  [.submit, .stageClear, .cancel, .nextCompletion, .release, .nextAttention, .nextFault, .linkStart, .linkStop,
    .stationHold, .stationResume, .stationFlush, .stationRejoin, .controllerReset]

/-- The command a code names; none for a code that names no command, 00h included (R187). -/
def commandOf (code : Byte) : Option HostCommand :=
  allCommands.find? fun c => commandCode c == code

/-- The command a table word spells. The table gives no row any bits, so no word spells one. -/
def decodeTableWord (_nbits _w : Nat) : Option Instr := none

end Sys2Proof
end

