-- ==== Sys2Proof/Machine/State.lean ====
section
/-! DEFINITION. The state of the 3120 as plain data, block by block (00_scope, Functional Overview), and the state
after pin reset. A timer is `none` when stopped and `some n` when running with n whole ticks of the 1 µs timebase left. -/

namespace Sys2Proof.Machine

/-! ### Field values -/

/-- The result codes of COMMAND RESULT (R189). -/
inductive ResultCode where
  | accepted | empty | noSuchTag | wrongState | tooLate | busy | badCommand | badStation | badKind | badCount
  | badLength | range | badRelation | linkNotUp | stationNotOnline | tableFull | postedFull
  deriving DecidableEq, Repr

/-- The completion status codes (section 1.8). -/
inductive Status where
  | success | rejected | stationFault | noResponse | busyLimit | parkTimeout | stationLost | linkDown | cancelled
  deriving DecidableEq, Repr

/-- The causes of a fault record (R175). -/
inductive FaultCause where
  | rejected | stationFault | noResponse | busyLimit | stationLost | linkDown | cancelled | windowWriteDropped
  deriving DecidableEq, Repr

/-- The mode of a request (R2). -/
inductive Mode where
  | increment | fixed
  deriving DecidableEq, Repr

/-- The relation of a MODIFY (R119). -/
inductive Relation where
  | eq | ne | ltu | geu | lts | ges
  deriving DecidableEq, Repr

/-- The phase of a MODIFY (R116). -/
inductive Phase where
  | read | write
  deriving DecidableEq, Repr

/-- What the 3120 knows of a MODIFY's write phase (R116). -/
inductive Written where
  | no | yes | unknown
  deriving DecidableEq, Repr

/-- The four link states (R43). -/
inductive LinkState where
  | down | enumerating | up | draining
  deriving DecidableEq, Repr

/-- The four station states (R35). -/
inductive StationState where
  | absent | probing | online | lost
  deriving DecidableEq, Repr

/-- The kinds of exchange (R77). -/
inductive ExchangeKind where
  | readSegment | writeSegment | modifyRead | modifyWrite | collect | abandon | poll | identify | broadcast
  deriving DecidableEq, Repr

/-! ### Request entries (Chapter 1) -/

/-- The MODIFY part (R3, R116). -/
structure ModifyPart where
  relation : Relation
  operand : Word
  compareMask : Word
  newValue : Word
  writeMask : Word
  phase : Phase
  oldValue : Option Word
  written : Written
  failedPhase : Option Phase
  deriving DecidableEq, Repr

/-- The kind of a request entry; a MODIFY carries its MODIFY part, and no other kind has one (R2, R3). -/
inductive RequestKind where
  | read
  | confirmedWrite
  | modify (part : ModifyPart)
  deriving DecidableEq, Repr

/-- The window part (R4, R148): the front, the stale and held marks and the discard timer. -/
structure WindowPart where
  front : Nat
  stale : Bool
  held : Bool
  discard : Option Nat
  deriving DecidableEq, Repr

/-- The origin of a request entry; an entry of origin WINDOW carries its window part (R2, R4). -/
inductive RequestOrigin where
  | port
  | window (part : WindowPart)
  deriving DecidableEq, Repr

/-- A segment: READ or WRITE, its first address and its length (R17). -/
structure Segment where
  write : Bool
  address : Word
  length : Nat
  deriving DecidableEq, Repr

/-- The three conditions of a collect timer (R130). -/
inductive CollectTimer where
  | stopped
  | running (left : Nat)
  | expired
  deriving DecidableEq, Repr

/-- The park part: the parked segment, the park timer and the collect timer (R4, R128). -/
structure ParkPart where
  segment : Segment
  park : Option Nat
  collect : CollectTimer
  deriving DecidableEq, Repr

/-- The states of a request entry other than FREE (R5). The busy backoff exists while WAITING, the park part while
PARKED, the status from DONE on. -/
inductive RequestState where
  | queued
  | active
  | waiting (backoff : Nat)
  | parked (part : ParkPart)
  | done (status : Status)
  | delivered (status : Status)
  deriving DecidableEq, Repr

/-- A request entry that is not FREE (R2). Its tag is its index in the Request Table. `order` is its place in the one
order of acceptance of R13, which the host cannot read. -/
structure Request where
  origin : RequestOrigin
  kind : RequestKind
  station : StationId
  start : Word
  mode : Mode
  count : Nat
  data : List Word
  wordsDone : Nat
  state : RequestState
  busyCount : Nat
  cancelPending : Bool
  abandonPending : Bool
  order : Nat
  deriving DecidableEq, Repr

/-! ### Posted entries (Chapter 5) -/

/-- The origin of a posted entry (R99). -/
inductive PostedOrigin where
  | port | window
  deriving DecidableEq, Repr

/-- The destination of an entry or exchange: a station, or all stations (station 15). -/
inductive Target where
  | station (i : StationId)
  | broadcast
  deriving DecidableEq, Repr

/-- The states of a posted entry other than FREE (R100). -/
inductive PostedState where
  | opened
  | queued
  | active
  | waiting (backoff : Nat)
  deriving DecidableEq, Repr

/-- A posted entry that is not FREE (R99). Its index is its position in the store; its count is the length of its
data. `order` is its place in the order of acceptance (R13). -/
structure Posted where
  origin : PostedOrigin
  target : Target
  start : Word
  mode : Mode
  data : List Word
  wordsDone : Nat
  state : PostedState
  busyCount : Nat
  flushPending : Bool
  order : Nat
  deriving DecidableEq, Repr

/-! ### Station records (Chapter 2) -/

/-- A station record (R34). The tier is a view of the station tier configuration (R34, R41). -/
structure Station where
  state : StationState
  held : Bool
  toggle : Bool
  stationClass : Word
  revision : Byte
  maxBurst : Nat
  parkCapable : Bool
  attentionCapable : Bool
  lastSequence : Byte
  backlog : Bool
  pollTimer : Option Nat
  pollDue : Bool
  queue : List EntryRef
  deriving DecidableEq, Repr

/-- A station record after pin reset (R34). -/
def Station.reset : Station where
  state := .absent
  held := false
  toggle := false
  stationClass := 0#16
  revision := 0#8
  maxBurst := 1
  parkCapable := false
  attentionCapable := false
  lastSequence := 0#8
  backlog := false
  pollTimer := none
  pollDue := false
  queue := []

/-! ### The exchange engine (Chapter 4) -/

/-- Whoever receives the outcome of an exchange (R75). -/
inductive Owner where
  | request (t : Tag)
  | posted (p : PostedIndex)
  | station (i : StationId)
  deriving DecidableEq, Repr

/-- Where an attempt stands. The first three are the engine state SENDING, the last two AWAITING (R76): waiting for the
pair to fall quiet with the pair timer running (R53, R73), sending at the bit rate the frame began with (R52), in the
gap after a BROADCAST (R83), with the reply window open (R71), receiving at the bit rate the reception began with. -/
inductive EnginePhase where
  | pairWait (left : Nat)
  | sending (rate : BitVec 2)
  | gap (left : Nat)
  | window (left : Nat)
  | receiving (rate : BitVec 2)
  deriving DecidableEq, Repr

/-- The exchange record (R75). -/
structure Exchange where
  kind : ExchangeKind
  owner : Owner
  destination : Target
  frame : List Word
  attempt : Nat
  limit : Nat
  phase : EnginePhase
  deriving DecidableEq, Repr

/-! ### The host port (Chapters 1, 8, 10, 11) -/

/-- The staging area (R6, R7). A staging field holds any value its bits can hold. -/
structure Staging where
  kind : BitVec 4
  mode : BitVec 1
  relation : BitVec 3
  station : BitVec 4
  count : BitVec 5
  address : Word
  operand : Word
  compareMask : Word
  newValue : Word
  writeMask : Word
  data : List Word
  overflow : Bool
  deriving DecidableEq, Repr

/-- The completion record, COMPLETION A, B and OLD VALUE, in the codes of R189 (R23). -/
structure CompletionRecord where
  tag : BitVec 4
  kind : BitVec 3
  station : BitVec 4
  status : BitVec 4
  wordsDone : BitVec 5
  oldPresent : Bool
  written : BitVec 2
  failedPhase : BitVec 2
  oldValue : Word
  deriving DecidableEq, Repr

/-- The attention record (R171). -/
structure AttentionRecord where
  station : BitVec 4
  code : Byte
  occurrences : Byte
  info : Word
  deriving DecidableEq, Repr

/-- The fault record registers (R177). -/
structure FaultRegisters where
  cause : BitVec 4
  station : BitVec 4
  address : Word
  wordsDone : BitVec 5
  dropped : Byte
  deriving DecidableEq, Repr

/-- The configuration registers (R185). Bit n - 1 of `expected` and `tiers` is station n; `pageBase` is bits 15..4 of
the page base. -/
structure Settings where
  timebaseDivisor : BitVec 6
  replyWindow : Byte
  bitRate : BitVec 2
  retryLimit : BitVec 4
  busyLimit : Byte
  busyBackoff : Byte
  parkLimit : Byte
  collectInterval : Byte
  pollInterval : Byte
  holdLimit : BitVec 6
  discardTime : Byte
  expected : BitVec 14
  tiers : BitVec 14
  windowStation : StationId
  pageBase : BitVec 12
  prefetch : Bool
  deriving DecidableEq, Repr

/-- The configuration registers after pin reset (the table of R185). -/
def Settings.reset : Settings where
  timebaseDivisor := 16#6
  replyWindow := 32#8
  bitRate := 1#2
  retryLimit := 3#4
  busyLimit := 64#8
  busyBackoff := 16#8
  parkLimit := 50#8
  collectInterval := 10#8
  pollInterval := 10#8
  holdLimit := 16#6
  discardTime := 20#8
  expected := 0#14
  tiers := 0#14
  windowStation := 0
  pageBase := 0#12
  prefetch := false

/-- One bit for each of the six interrupt causes (R179): the causes themselves, or their enables (R181). -/
structure Causes where
  completion : Bool
  attention : Bool
  fault : Bool
  station : Bool
  link : Bool
  window : Bool
  deriving DecidableEq, Repr

/-- The three latched causes (R179). The three level causes follow their lists and are not stored. -/
structure LatchedCauses where
  station : Bool
  link : Bool
  window : Bool
  deriving DecidableEq, Repr

/-- Last outcome and code of WINDOW STATUS (R142): the code is none with OK and DEFERRED, a result code with REFUSED
and a completion status with ERROR. -/
inductive WindowOutcome where
  | ok
  | deferred
  | refused (code : ResultCode)
  | error (status : Status)
  deriving DecidableEq, Repr

/-- The window status register (R142). -/
structure WindowStatus where
  last : WindowOutcome
  deferredSeen : Bool
  discardedSeen : Bool
  droppedSeen : Bool
  deriving DecidableEq, Repr

/-- The host access that the 3120 is stretching with WAIT, with its hold timer: an aperture read of an address held on
a window entry (R149), or an aperture write of a word held for posted space (R157). -/
inductive HeldAccess where
  | read (tag : Tag) (address : Word) (left : Nat)
  | write (address : Word) (value : Word) (left : Nat)
  deriving DecidableEq, Repr

/-- One host access: a read or a write of one location (R183). -/
inductive HostAccess where
  | read (location : BitVec 6)
  | write (location : BitVec 6) (value : Word)
  deriving DecidableEq, Repr

/-! ### Attention and faults (Chapters 9 and 10) -/

/-- An attention item (R162). -/
structure AttentionItem where
  station : StationId
  code : Byte
  occurrences : Nat
  info : Word
  deriving DecidableEq, Repr

/-- A fault record (R175). -/
structure FaultRecord where
  cause : FaultCause
  target : Target
  address : Word
  wordsDone : Nat
  deriving DecidableEq, Repr

/-! ### The machine -/

/-- Why the machine would stop with a fault. It has no constructor: the spec gives every command an effect in every
state, so no command of the 3120 stops it (safe: nothing is claimed to stop that the part runs). -/
inductive Fault where
  deriving DecidableEq, Repr

/-- Why a command has no meaning in this model. -/
inductive Refusal where
  /-- Raised by an arm of `exec` for a row of the table that has no meaning yet; no arm raises it now. Safe: the model
  stops where the part goes on. -/
  | notModelled (mnemonic : String)
  deriving DecidableEq, Repr

/-- The state of the 3120. -/
structure State where
  /-- The commands that are waiting, first in first out (the model's own field). -/
  pending : List Instr
  /-- COMMAND (R187). -/
  command : Byte
  /-- COMMAND RESULT (R189). -/
  result : ResultCode
  /-- PARAMETER (R188). -/
  parameter : Word
  /-- SUBMIT TAG (R11, R12). -/
  submitTag : BitVec 4
  /-- The staging area (R6, R7). -/
  staging : Staging
  /-- The completion record (R23). -/
  completion : CompletionRecord
  /-- The data port position, 0..16 (R24). -/
  dataPosition : Nat
  /-- The attention record (R171). -/
  attentionRecord : AttentionRecord
  /-- The fault record registers (R177). -/
  faultRegisters : FaultRegisters
  /-- The configuration registers (R185). -/
  settings : Settings
  /-- STATION SELECT (R188). -/
  stationSelect : StationId
  /-- The latched interrupt causes (R179). -/
  latched : LatchedCauses
  /-- The interrupt enables (R181). -/
  enables : Causes
  /-- The host access being held, if any (R183). -/
  access : Option HeldAccess
  /-- The host accesses stretched behind the held one, oldest first (R183). -/
  portWaiting : List HostAccess
  /-- The word the latest host read returned on D15..D0 (the model's own field); none when no read has. -/
  dataOut : Option Word
  /-- The window status register (R142). -/
  windowStatus : WindowStatus
  /-- The Request Table; none is a FREE entry (section 1.2). -/
  requests : Vector (Option Request) 16
  /-- The Completion List, oldest first (R21). -/
  completionList : List Tag
  /-- The posted entries; none is a FREE entry (R98). -/
  posted : Vector (Option Posted) 16
  /-- The broadcast queue, head first (R110). -/
  broadcastQueue : List PostedIndex
  /-- The place the next acceptance takes in the order of acceptance (R13). -/
  nextOrder : Nat
  /-- The fourteen station records (R34). -/
  stations : Vector Station 14
  /-- The link state (R43). -/
  link : LinkState
  /-- The stations the enumeration pass has still to finish with, in ascending order (R45). -/
  pass : List StationId
  /-- The HIGH position of the scheduler, 0..15 (R89). -/
  highPosition : Nat
  /-- The LOW position of the scheduler, 0..14 (R89). -/
  lowPosition : Nat
  /-- The starvation count, 0..8 (R89). -/
  starvation : Nat
  /-- The exchange in flight; none when the engine is IDLE (R75). -/
  exchange : Option Exchange
  /-- The attention queue, oldest first (R162). -/
  attention : List AttentionItem
  /-- The fault list, oldest first (R176). -/
  faults : List FaultRecord
  /-- The dropped count (R176). -/
  dropped : Nat
  /-- The level of the HOLD input (R97). -/
  holdInput : Bool
  /-- Whether RESET is asserted (R192). -/
  resetInput : Bool
  deriving DecidableEq, Repr

/-- The 3120 after pin reset, with RESET released and HOLD deasserted (R192, the pin reset column of R184's register
map, R32, R34, R50, R75, R89, R98, R174, R178, R182). -/
def State.reset : State where
  pending := []
  command := 0#8
  result := .accepted
  parameter := 0#16
  submitTag := 0#4
  staging :=
    { kind := 0, mode := 0, relation := 0, station := 0, count := 0, address := 0, operand := 0, compareMask := 0,
      newValue := 0, writeMask := 0, data := [], overflow := false }
  completion :=
    { tag := 0, kind := 0, station := 0, status := 0, wordsDone := 0, oldPresent := false, written := 0,
      failedPhase := 0, oldValue := 0 }
  dataPosition := 0
  attentionRecord := { station := 0, code := 0, occurrences := 0, info := 0 }
  faultRegisters := { cause := 0, station := 0, address := 0, wordsDone := 0, dropped := 0 }
  settings := Settings.reset
  stationSelect := 0
  latched := { station := false, link := false, window := false }
  enables :=
    { completion := false, attention := false, fault := false, station := false, link := false, window := false }
  access := none
  portWaiting := []
  dataOut := none
  windowStatus := { last := .ok, deferredSeen := false, discardedSeen := false, droppedSeen := false }
  requests := Vector.replicate 16 none
  completionList := []
  posted := Vector.replicate 16 none
  broadcastQueue := []
  nextOrder := 0
  stations := Vector.replicate 14 Station.reset
  link := .down
  pass := []
  highPosition := 0
  lowPosition := 0
  starvation := 0
  exchange := none
  attention := []
  faults := []
  dropped := 0
  holdInput := false
  resetInput := false

end Sys2Proof.Machine
end

