-- ==== Sys2Proof/Machine/Operands.lean ====
section
/-! DEFINITION. Operand forms: station addresses, the codes of coded fields (R189), the fields of written values and
the intervals of the timers in ticks of the 1 µs timebase. -/

namespace Sys2Proof.Machine

/-! ### Station addresses (R33) -/

/-- The address, 1..14, of a station record. -/
def stationAddress (i : StationId) : Nat := i.val + 1

/-- The station record at an address; none outside 1..14. -/
def stationAt (n : Nat) : Option StationId :=
  if h : 1 ≤ n ∧ n ≤ 14 then some ⟨n - 1, by omega⟩ else none

/-- The station number of a target: 1..14, or 15 for all stations. -/
def Target.address : Target → Nat
  | .station i => stationAddress i
  | .broadcast => 15

/-- The tag a parameter names; none above 15 (R188). -/
def tagAt (n : Nat) : Option Tag :=
  if h : n < 16 then some ⟨n, h⟩ else none

/-- A code, taken as a word, in a field of the given width. -/
def field (width : Nat) (n : Nat) : BitVec width := BitVec.ofNat width n

/-! ### Codes of coded fields (R189) -/

/-- The five request kinds a SUBMIT can name (R1). -/
inductive StagedKind where
  | read | confirmedWrite | modify | postedWrite | broadcastWrite
  deriving DecidableEq, Repr

/-- The kind a staged code names. -/
def stagedKind (code : BitVec 4) : Option StagedKind :=
  if code = 1#4 then some .read
  else if code = 2#4 then some .confirmedWrite
  else if code = 3#4 then some .modify
  else if code = 4#4 then some .postedWrite
  else if code = 5#4 then some .broadcastWrite
  else none

/-- The relation a staged code names. -/
def stagedRelation (code : BitVec 3) : Option Relation :=
  if code = 1#3 then some .eq
  else if code = 2#3 then some .ne
  else if code = 3#3 then some .ltu
  else if code = 4#3 then some .geu
  else if code = 5#3 then some .lts
  else if code = 6#3 then some .ges
  else none

/-- The mode a staged bit names: 0 INCREMENT, 1 FIXED. -/
def stagedMode (code : BitVec 1) : Mode :=
  if code = 0#1 then .increment else .fixed

/-- Whether a staged kind carries data words (check 4 of R9). -/
def StagedKind.isWrite : StagedKind → Bool
  | .confirmedWrite | .postedWrite | .broadcastWrite => true
  | .read | .modify => false

/-- Whether a staged kind is held in the Posted Store (R1). -/
def StagedKind.isPosted : StagedKind → Bool
  | .postedWrite | .broadcastWrite => true
  | .read | .confirmedWrite | .modify => false

/-- The code of a result (R189). -/
def ResultCode.code : ResultCode → BitVec 5
  | .accepted => 0x00#5
  | .empty => 0x01#5
  | .noSuchTag => 0x02#5
  | .wrongState => 0x03#5
  | .tooLate => 0x04#5
  | .busy => 0x05#5
  | .badCommand => 0x06#5
  | .badStation => 0x07#5
  | .badKind => 0x08#5
  | .badCount => 0x09#5
  | .badLength => 0x0A#5
  | .range => 0x0B#5
  | .badRelation => 0x0C#5
  | .linkNotUp => 0x0D#5
  | .stationNotOnline => 0x0E#5
  | .tableFull => 0x0F#5
  | .postedFull => 0x10#5

/-- The code of a completion status. -/
def Status.code : Status → BitVec 4
  | .success => 1#4
  | .rejected => 2#4
  | .stationFault => 3#4
  | .noResponse => 4#4
  | .busyLimit => 5#4
  | .parkTimeout => 6#4
  | .stationLost => 7#4
  | .linkDown => 8#4
  | .cancelled => 9#4

/-- The code of a fault cause. -/
def FaultCause.code : FaultCause → BitVec 4
  | .rejected => 1#4
  | .stationFault => 2#4
  | .noResponse => 3#4
  | .busyLimit => 4#4
  | .stationLost => 5#4
  | .linkDown => 6#4
  | .cancelled => 7#4
  | .windowWriteDropped => 8#4

/-- The code of a request entry's kind in COMPLETION A. -/
def RequestKind.code : RequestKind → BitVec 3
  | .read => 1#3
  | .confirmedWrite => 2#3
  | .modify _ => 3#3

/-- The code of the written field in COMPLETION B. -/
def Written.code : Written → BitVec 2
  | .no => 0#2
  | .yes => 1#2
  | .unknown => 2#2

/-- The code of the failed phase in COMPLETION B: 0 absent. -/
def failedPhaseCode : Option Phase → BitVec 2
  | none => 0#2
  | some .read => 1#2
  | some .write => 2#2

/-- The code of an exchange kind in EXCHANGE STATUS. -/
def ExchangeKind.code : ExchangeKind → BitVec 4
  | .readSegment => 1#4
  | .writeSegment => 2#4
  | .modifyRead => 3#4
  | .modifyWrite => 4#4
  | .collect => 5#4
  | .abandon => 6#4
  | .poll => 7#4
  | .identify => 8#4
  | .broadcast => 9#4

/-- The code of the engine state in EXCHANGE STATUS: 1 SENDING, 2 AWAITING (R76). -/
def EnginePhase.code : EnginePhase → BitVec 2
  | .pairWait _ | .sending _ | .gap _ => 1#2
  | .window _ | .receiving _ => 2#2

/-- The code of the link state in STATUS. -/
def LinkState.code : LinkState → BitVec 2
  | .down => 0#2
  | .enumerating => 1#2
  | .up => 2#2
  | .draining => 3#2

/-- The code of a station state in STATION STATUS. -/
def StationState.code : StationState → BitVec 2
  | .absent => 0#2
  | .probing => 1#2
  | .online => 2#2
  | .lost => 3#2

/-- The code of the last outcome in WINDOW STATUS. -/
def WindowOutcome.code : WindowOutcome → BitVec 2
  | .ok => 0#2
  | .deferred => 1#2
  | .refused _ => 2#2
  | .error _ => 3#2

/-- The code field of WINDOW STATUS: 0 none, a result code or a completion status (R142, R189). -/
def WindowOutcome.detail : WindowOutcome → BitVec 5
  | .ok | .deferred => 0#5
  | .refused code => code.code
  | .error status => status.code.zeroExtend 5

/-! ### Addresses of a request -/

/-- The address `done` transfers after `start`: it rises for INCREMENT and stays for FIXED (R17, R61, R105). -/
def Mode.advance (mode : Mode) (start : Word) (done : Nat) : Word :=
  match mode with
  | .increment => start + BitVec.ofNat 16 done
  | .fixed => start

/-- The station address aperture location `offset` maps to: page base + offset (R141). -/
def apertureAddress (g : Settings) (offset : BitVec 4) : Word := g.pageBase ++ offset

/-! ### Intervals, in ticks of the 1 µs timebase -/

/-- The reply window time, in µs (R71). -/
def Settings.replyTicks (g : Settings) : Nat := g.replyWindow.toNat

/-- The busy backoff, in units of 16 µs (R86). -/
def Settings.backoffTicks (g : Settings) : Nat := 16 * g.busyBackoff.toNat

/-- The park limit, in milliseconds (R129). -/
def Settings.parkTicks (g : Settings) : Nat := 1000 * g.parkLimit.toNat

/-- The collect interval, in units of 100 µs (R129). -/
def Settings.collectTicks (g : Settings) : Nat := 100 * g.collectInterval.toNat

/-- The poll interval, in milliseconds (R163). -/
def Settings.pollTicks (g : Settings) : Nat := 1000 * g.pollInterval.toNat

/-- The hold limit, in µs (R149). -/
def Settings.holdTicks (g : Settings) : Nat := g.holdLimit.toNat

/-- The discard time, in milliseconds (R151). -/
def Settings.discardTicks (g : Settings) : Nat := 1000 * g.discardTime.toNat

/-- Whether a station belongs to the LOW tier (R41). -/
def Settings.isLow (g : Settings) (i : StationId) : Bool := g.tiers.getLsbD i.val

/-- Whether the expected station mask names a station (R42). -/
def Settings.expects (g : Settings) (i : StationId) : Bool := g.expected.getLsbD i.val

end Sys2Proof.Machine
end

