-- ==== Sys2Proof/Machine/Frames.lean ====
section
/-! DEFINITION. Link frames (Chapter 3): the CRC, the frames the 3120 forms, and how it reads and judges a reply. -/

namespace Sys2Proof.Machine

/-! ### CRC (R55) -/

/-- One bit of the CRC register's division by x^16 + x^12 + x^5 + 1. -/
def crcBit (register : Word) (bit : Bool) : Word :=
  if register.msb ^^ bit then (register <<< 1) ^^^ 0x1021#16 else register <<< 1

/-- The CRC register after the sixteen bits of a word, most significant bit first. -/
def crcWord (register word : Word) : Word :=
  (List.range 16).foldl (fun c k => crcBit c (word.getLsbD (15 - k))) register

/-- The CRC of a list of words: the register starts at 0FFFFh and the result is not inverted. -/
def crc (words : List Word) : Word := words.foldl crcWord 0xFFFF#16

/-! ### Frame layout (R56, R57) -/

/-- The type codes of the frames the 3120 sends. -/
def ExchangeKind.frameType : ExchangeKind → BitVec 4
  | .readSegment | .modifyRead => 0x1#4
  | .writeSegment | .modifyWrite => 0x2#4
  | .poll => 0x3#4
  | .collect => 0x4#4
  | .abandon => 0x5#4
  | .identify => 0x6#4
  | .broadcast => 0x7#4

/-- The type codes of the frames a station sends. -/
inductive ReplyType where
  | data | ack | nak | parked | attn | quiet | identity
  deriving DecidableEq, Repr

/-- The reply type a type code names; none for a code that names a frame of the 3120 or no type (R57). -/
def replyType (code : BitVec 4) : Option ReplyType :=
  if code = 0x8#4 then some .data
  else if code = 0x9#4 then some .ack
  else if code = 0xA#4 then some .nak
  else if code = 0xB#4 then some .parked
  else if code = 0xC#4 then some .attn
  else if code = 0xD#4 then some .quiet
  else if code = 0xE#4 then some .identity
  else none

/-- The four flags of a header word (R58). -/
structure FrameFlags where
  toggle : Bool
  nopark : Bool
  incr : Bool
  deriving DecidableEq, Repr

/-- No flag set: the header flags of every frame but READ, WRITE and BROADCAST (R58). -/
def noFlags : FrameFlags := { toggle := false, nopark := false, incr := false }

/-- The header word of a frame the 3120 sends: destination, source 0, type, TOGGLE, NOPARK, INCR, and MORE clear. -/
def headerWord (destination : Nat) (type : BitVec 4) (flags : FrameFlags) : Word :=
  field 4 destination ++ 0#4 ++ type ++ BitVec.ofBool flags.toggle ++ BitVec.ofBool flags.nopark ++
    BitVec.ofBool flags.incr ++ 0#1

/-- A frame closed by its CRC word (R55, R56). -/
def sealed (words : List Word) : List Word := words ++ [crc words]

/-- A READ frame: header, address, count, CRC. -/
def readFrame (kind : ExchangeKind) (destination : Nat) (flags : FrameFlags) (address : Word) (count : Nat) :
    List Word :=
  sealed [headerWord destination kind.frameType flags, address, field 16 count]

/-- A WRITE or BROADCAST frame: header, address, count, the data words, CRC. -/
def writeFrame (kind : ExchangeKind) (destination : Nat) (flags : FrameFlags) (address : Word) (data : List Word) :
    List Word :=
  sealed ([headerWord destination kind.frameType flags, address, field 16 data.length] ++ data)

/-- A POLL frame: header, accepted-through, CRC. -/
def pollFrame (destination : Nat) (acceptedThrough : Byte) : List Word :=
  sealed [headerWord destination (ExchangeKind.poll).frameType noFlags, 0#8 ++ acceptedThrough]

/-- A COLLECT, ABANDON or IDENTIFY frame: header and CRC only. -/
def bareFrame (kind : ExchangeKind) (destination : Nat) : List Word :=
  sealed [headerWord destination kind.frameType noFlags]

/-! ### Replies (R71 to R74) -/

/-- The reasons of a NAK (R56). -/
inductive NakReason where
  | busy | reject | fault
  deriving DecidableEq, Repr

/-- The reason a NAK's second word names. -/
def nakReason (word : Word) : Option NakReason :=
  if word = 1#16 then some .busy
  else if word = 2#16 then some .reject
  else if word = 3#16 then some .fault
  else none

/-- One item of an ATTN: sequence, code, info (R56). -/
structure AttnEntry where
  sequence : Byte
  code : Byte
  info : Word
  deriving DecidableEq, Repr

/-- The fields of an IDENTITY (R56, R67). -/
structure Identity where
  stationClass : Word
  revision : Byte
  maxBurst : Nat
  parkCapable : Bool
  attentionCapable : Bool
  attentionBase : Byte
  deriving DecidableEq, Repr

/-- The contents of a valid reply (R74). -/
inductive Reply where
  | data (words : List Word)
  | ack
  | nak (reason : NakReason)
  | parked
  | attn (items : List AttnEntry) (more : Bool)
  | quiet
  | identity (fields : Identity)
  deriving DecidableEq, Repr

/-- Whether a reception is a well framed frame (R54). -/
def wellFramed (r : Reception) : Bool :=
  r.delimiterGood && r.codingGood && r.extraBits == 0 && 2 ≤ r.words.length && r.words.length ≤ 20

/-- The words of a frame before its CRC word, when the CRC is good (R55). -/
def checkedBody (words : List Word) : Option (List Word) :=
  match words.getLast? with
  | none => none
  | some last => if crc words.dropLast = last then some words.dropLast else none

/-- The items of an ATTN, two words to each. -/
def attnEntries : List Word → List AttnEntry
  | a :: b :: rest =>
    { sequence := a.extractLsb' 8 8, code := a.extractLsb' 0 8, info := b } :: attnEntries rest
  | _ => []

/-- The fields of an IDENTITY with the words after its header; none when its max burst is outside 1..16 (R72). -/
def identityFields (w2 w3 w4 : Word) : Option Identity :=
  let burst := (w3.extractLsb' 0 5).toNat
  if 1 ≤ burst ∧ burst ≤ 16 then
    some
      { stationClass := w2
        revision := w3.extractLsb' 8 8
        maxBurst := burst
        parkCapable := w3.getLsbD 6
        attentionCapable := w3.getLsbD 7
        attentionBase := w4.extractLsb' 0 8 }
  else none

/-- What the consistency tests of R72 compare a reply with: the address and count of the READ it answers, and the
accepted-through of the POLL it answers. -/
structure Expected where
  address : Word
  count : Nat
  acceptedThrough : Byte
  deriving DecidableEq, Repr

/-- The contents of a reply of the given type, from its header and the words after the header, CRC word excluded; none
when its length does not match its type or its fields are not consistent (the fifth test of R72). -/
def replyContents (type : ReplyType) (expected : Expected) (header : Word) (body : List Word) : Option Reply :=
  match type, body with
  | .ack, [] => some .ack
  | .parked, [] => some .parked
  | .quiet, [] => some .quiet
  | .nak, [reason] => (nakReason reason).map .nak
  | .identity, [w2, w3, w4] => (identityFields w2 w3 w4).map .identity
  | .data, address :: count :: words =>
    if address = expected.address ∧ count.toNat = expected.count ∧ words.length = count.toNat ∧ 1 ≤ count.toNat ∧
        count.toNat ≤ 16 then
      some (.data words)
    else none
  | .attn, echo :: count :: words =>
    if echo.extractLsb' 0 8 = expected.acceptedThrough ∧ 1 ≤ count.toNat ∧ count.toNat ≤ 4 ∧
        words.length = 2 * count.toNat then
      some (.attn (attnEntries words) (header.getLsbD 0))
    else none
  | _, _ => none

/-- Whether an exchange kind accepts a reply type (R77): `parkable` says the frame was sent with NOPARK clear, and
`parkedWrite` that the parked segment a COLLECT asks for is a WRITE. -/
def acceptsReply (kind : ExchangeKind) (parkable parkedWrite : Bool) (type : ReplyType) : Bool :=
  match kind, type with
  | .readSegment, .data | .readSegment, .nak => true
  | .readSegment, .parked => parkable
  | .writeSegment, .ack | .writeSegment, .nak => true
  | .writeSegment, .parked => parkable
  | .modifyRead, .data | .modifyRead, .nak => true
  | .modifyWrite, .ack | .modifyWrite, .nak => true
  | .collect, .data => !parkedWrite
  | .collect, .ack => parkedWrite
  | .collect, .parked | .collect, .nak => true
  | .abandon, .ack => true
  | .poll, .attn | .poll, .quiet => true
  | .identify, .identity => true
  | _, _ => false

/-- The judgement of R72 on a reception that began within the reply window: the reply of a valid attempt, or none for a
bad one. `source` is the station the frame was sent to. -/
def judge (kind : ExchangeKind) (parkable parkedWrite : Bool) (source : Nat) (expected : Expected) (r : Reception) :
    Option Reply :=
  if wellFramed r then
    match checkedBody r.words with
    | some (header :: body) =>
      if header.extractLsb' 12 4 = 0#4 ∧ header.extractLsb' 8 4 = field 4 source then
        match replyType (header.extractLsb' 4 4) with
        | some type =>
          if acceptsReply kind parkable parkedWrite type then replyContents type expected header body else none
        | none => none
      else none
    | _ => none
  else none

end Sys2Proof.Machine
end

