-- ==== Sys2Proof/Machine/Ops.lean ====
section
/-! DEFINITION. The named operations over the tables and lists of the 3120: entries, station records and their queues,
completion, freeing, fault records, stale marking and closure. Every meaning is written over these. -/

namespace Sys2Proof.Machine

/-! ### Tables -/

/-- A table with the given row at each index. -/
def tabulate {α : Type} {n : Nat} (f : Fin n → α) : Vector α n := ⟨(List.ofFn f).toArray, by simp⟩

/-- The lowest-numbered FREE entry of a table (R11, R98). -/
def firstFree {α : Type} (table : Vector (Option α) 16) : Option (Fin 16) :=
  (List.finRange 16).find? fun i => table[i].isNone

/-- How many entries of a table are FREE. -/
def freeCount {α : Type} (table : Vector (Option α) 16) : Nat :=
  (List.finRange 16).countP fun i => table[i].isNone

/-- The request entry with a tag; none when it is FREE. -/
def State.request (s : State) (t : Tag) : Option Request := s.requests[t]

/-- The posted entry at an index; none when it is FREE. -/
def State.postedEntry (s : State) (p : PostedIndex) : Option Posted := s.posted[p]

/-- The record of a station. -/
def State.station (s : State) (i : StationId) : Station := s.stations[i]

/-- Puts a row into the Request Table. -/
def State.putRequest (s : State) (t : Tag) (r : Option Request) : State :=
  { s with requests := s.requests.set t r }

/-- Puts a row into the Posted Store. -/
def State.putPosted (s : State) (p : PostedIndex) (e : Option Posted) : State :=
  { s with posted := s.posted.set p e }

/-- Changes one station record. -/
def State.updateStation (s : State) (i : StationId) (f : Station → Station) : State :=
  { s with stations := s.stations.set i (f s.stations[i]) }

/-- Changes a request entry that is not FREE. -/
def State.updateRequest (s : State) (t : Tag) (f : Request → Request) : State :=
  match s.request t with
  | some r => s.putRequest t (some (f r))
  | none => s

/-- Changes a posted entry that is not FREE. -/
def State.updatePosted (s : State) (p : PostedIndex) (f : Posted → Posted) : State :=
  match s.postedEntry p with
  | some e => s.putPosted p (some (f e))
  | none => s

/-! ### What an entry is -/

/-- A request entry in QUEUED, ACTIVE, WAITING or PARKED: it stands in its station's queue (R5, R14). -/
def Request.unfinished (r : Request) : Bool :=
  match r.state with
  | .queued | .active | .waiting _ | .parked _ => true
  | .done _ | .delivered _ => false

/-- A window entry marked stale (R152). -/
def Request.stale (r : Request) : Bool :=
  match r.origin with
  | .window w => w.stale
  | .port => false

/-- The count of a posted entry: the words it holds (R99). -/
def Posted.count (e : Posted) : Nat := e.data.length

/-- The address a posted entry's next segment has: the address of its fault record (R102, R105). -/
def Posted.nextAddress (e : Posted) : Word := e.mode.advance e.start e.wordsDone

/-- The pool words in use: the sum of the counts of the entries that are not FREE (R98). -/
def State.poolUsed (s : State) : Nat :=
  ((List.finRange 16).map fun p =>
    match s.postedEntry p with
    | some e => e.count
    | none => 0).sum

/-- The free pool words (R98). -/
def State.poolFree (s : State) : Nat := Config.poolWords - s.poolUsed

/-- How many request entries have origin WINDOW (R147). -/
def State.windowEntries (s : State) : Nat :=
  (List.finRange 16).countP fun t =>
    match s.request t with
    | some r => match r.origin with
      | .window _ => true
      | .port => false
    | none => false

/-- The OPEN posted entry, if one exists (R100). -/
def State.openEntry (s : State) : Option PostedIndex :=
  (List.finRange 16).find? fun p =>
    match s.postedEntry p with
    | some e => e.state = .opened
    | none => false

/-- Whether a station is ONLINE. -/
def State.online (s : State) (i : StationId) : Bool := (s.station i).state = .online

/-! ### Queues (R14 to R16) -/

/-- Appends a reference to the tail of a station's queue. -/
def State.enqueue (s : State) (i : StationId) (x : EntryRef) : State :=
  s.updateStation i fun st => { st with queue := st.queue ++ [x] }

/-- Takes a reference out of a station's queue, wherever it stands; the others keep their order (R16). -/
def State.dequeue (s : State) (i : StationId) (x : EntryRef) : State :=
  s.updateStation i fun st => { st with queue := st.queue.erase x }

/-- Appends a posted entry to the tail of its queue: its station's, or the broadcast queue (R101). -/
def State.enqueuePosted (s : State) (target : Target) (p : PostedIndex) : State :=
  match target with
  | .station i => s.enqueue i (.posted p)
  | .broadcast => { s with broadcastQueue := s.broadcastQueue ++ [p] }

/-- Takes a posted entry out of its queue (R105). -/
def State.dequeuePosted (s : State) (target : Target) (p : PostedIndex) : State :=
  match target with
  | .station i => s.dequeue i (.posted p)
  | .broadcast => { s with broadcastQueue := s.broadcastQueue.erase p }

/-! ### Acceptance (R11, R13, R101) -/

/-- Accepts a request into a table entry: it takes the next place in the order of acceptance and joins the tail of its
station's queue. -/
def acceptRequest (t : Tag) (r : Request) (s : State) : State :=
  let s1 := (s.putRequest t (some { r with order := s.nextOrder })).enqueue r.station (.request t)
  { s1 with nextOrder := s.nextOrder + 1 }

/-- Accepts a posted write into a store entry: it takes the next place in the order of acceptance and joins the tail of
its queue. Its pool words are its data words. -/
def acceptPosted (p : PostedIndex) (e : Posted) (s : State) : State :=
  let s1 := (s.putPosted p (some { e with order := s.nextOrder })).enqueuePosted e.target p
  { s1 with nextOrder := s.nextOrder + 1 }

/-! ### Interrupt causes (R179) -/

/-- Latches the STATION cause. -/
def State.latchStation (s : State) : State := { s with latched := { s.latched with station := true } }

/-- Latches the LINK cause. -/
def State.latchLink (s : State) : State := { s with latched := { s.latched with link := true } }

/-- Latches the WINDOW cause. -/
def State.latchWindow (s : State) : State := { s with latched := { s.latched with window := true } }

/-! ### Fault records (R175, R176) -/

/-- Appends a fault record, or counts it when the list holds 8. -/
def State.appendFault (s : State) (f : FaultRecord) : State :=
  if s.faults.length < Config.faultRecords then { s with faults := s.faults ++ [f] }
  else { s with dropped := min Config.maxDropped (s.dropped + 1) }

/-! ### Completion and freeing -/

/-- Completes an unfinished request entry with a status (R20): it leaves its queue and enters DONE. A PORT tag joins
the Completion List. A WINDOW entry starts its discard timer (R151) and latches WINDOW when no access is held on it
(R150); a stale one is freed in the same happening (R152). -/
def completeRequest (t : Tag) (status : Status) (s : State) : State :=
  match s.request t with
  | none => s
  | some r =>
    if r.unfinished then
      let s1 := s.dequeue r.station (.request t)
      match r.origin with
      | .port =>
        { s1.putRequest t (some { r with state := .done status }) with completionList := s1.completionList ++ [t] }
      | .window w =>
        let s2 := if w.held then s1 else s1.latchWindow
        if w.stale then s2.putRequest t none
        else
          s2.putRequest t
            (some { r with
              state := .done status, origin := .window { w with discard := some s.settings.discardTicks } })
    else s

/-- Frees a request entry; it leaves its queue if it stands in one (R15, R152). -/
def freeRequest (t : Tag) (s : State) : State :=
  match s.request t with
  | none => s
  | some r => (s.dequeue r.station (.request t)).putRequest t none

/-- The fault record of a posted entry (R105). -/
def Posted.faultRecord (e : Posted) (cause : FaultCause) : FaultRecord :=
  { cause := cause, target := e.target, address := e.nextAddress, wordsDone := e.wordsDone }

/-- Frees a posted entry: it leaves its queue and returns its pool words, with a fault record when a cause is given
(R105). -/
def freePosted (p : PostedIndex) (cause : Option FaultCause) (s : State) : State :=
  match s.postedEntry p with
  | none => s
  | some e =>
    let s1 := (s.dequeuePosted e.target p).putPosted p none
    match cause with
    | none => s1
    | some c => s1.appendFault (e.faultRecord c)

/-! ### Stale marking (R114, R152) -/

/-- Whether the acceptance of a write to `target` marks the window entries of station `i`. -/
def Target.covers (target : Target) (i : StationId) : Bool :=
  match target with
  | .broadcast => true
  | .station j => i = j

/-- A row of the Request Table after the acceptance of a write to `target`: a window entry the write concerns is marked
stale, and freed when it is DONE. -/
def staleRow (target : Target) : Option Request → Option Request
  | none => none
  | some r =>
    match r.origin with
    | .port => some r
    | .window w =>
      if target.covers r.station then
        if r.unfinished then some { r with origin := .window { w with stale := true } } else none
      else some r

/-- Marks stale every window entry a write to `target` concerns. -/
def markStale (target : Target) (s : State) : State :=
  { s with requests := tabulate fun t => staleRow target (s.request t) }

/-! ### Closure of the OPEN entry (R156) -/

/-- A posted entry after the OPEN entry has been closed without a grant. -/
def closedRow : Option Posted → Option Posted
  | none => none
  | some e => if e.state = .opened then some { e with state := .queued } else some e

/-- Closes the OPEN posted entry, if one exists: it becomes QUEUED in its place. -/
def closeOpen (s : State) : State := { s with posted := tabulate fun p => closedRow (s.postedEntry p) }

/-! ### Cancelling one request entry (R26 to R29) -/

/-- What CANCEL does to a PORT entry in each unfinished state, and STATION-FLUSH to an entry of either origin: QUEUED and
WAITING complete CANCELLED, ACTIVE gets cancel pending, PARKED gets cancel pending and abandon pending with its collect
timer stopped. -/
def cancelEntry (t : Tag) (s : State) : State :=
  match s.request t with
  | none => s
  | some r =>
    match r.state with
    | .queued => completeRequest t .cancelled s
    | .waiting _ => completeRequest t .cancelled s
    | .active => s.putRequest t (some { r with cancelPending := true })
    | .parked part =>
      s.putRequest t
        (some { r with
          cancelPending := true, abandonPending := true, state := .parked { part with collect := .stopped } })
    | .done _ | .delivered _ => s

/-! ### Host results -/

/-- Writes COMMAND RESULT (R187). -/
def State.setResult (s : State) (c : ResultCode) : State := { s with result := c }

/-! ### The order of acceptance (R13) -/

/-- Members of the two stores with the given places in the order of acceptance, earliest first. -/
def byOrder {α : Type} (members : List (Nat × α)) : List α :=
  (members.insertionSort fun a b => a.1 ≤ b.1).map Prod.snd

end Sys2Proof.Machine
end

