-- ==== Sys2Proof/Machine/Flags.lean ====
section
/-! DEFINITION. The flags and lines computed from the state: the six interrupt causes, INT, WAIT and the line driver. -/

namespace Sys2Proof.Machine

/-- The six interrupt causes as they stand (R179): the level causes follow their lists. -/
def State.causes (s : State) : Causes where
  completion := !s.completionList.isEmpty
  attention := !s.attention.isEmpty
  fault := !s.faults.isEmpty || s.dropped != 0
  station := s.latched.station
  link := s.latched.link
  window := s.latched.window

/-- Whether some cause is set with its enable ENABLED. -/
def Causes.meets (c e : Causes) : Bool :=
  (c.completion && e.completion) || (c.attention && e.attention) || (c.fault && e.fault) ||
    (c.station && e.station) || (c.link && e.link) || (c.window && e.window)

/-- The INT output (R181): asserted while at least one cause is set with its enable ENABLED. -/
def State.intAsserted (s : State) : Bool := s.causes.meets s.enables

/-- The WAIT output (R183): asserted while an access is held, and for an access stretched behind a hold until it is taken. -/
def State.waitAsserted (s : State) : Bool := s.access.isSome || !s.portWaiting.isEmpty

/-- The line driver is enabled while the link is ENUMERATING, UP or DRAINING (R43, R53). -/
def State.lineDriver (s : State) : Bool := s.link != .down

/-- The receiver listens only while a reply is awaited (R53, R71). -/
def State.receiverOn (s : State) : Bool :=
  match s.exchange with
  | some x => match x.phase with
    | .window _ | .receiving _ => true
    | .pairWait _ | .sending _ | .gap _ => false
  | none => false

end Sys2Proof.Machine
end

