-- ==== Sys2Proof/Machine/Attention.lean ====
section
/-! DEFINITION. Attention collection (Chapter 9): the poll due mark, the acceptance of ATTN items and the end of a POLL. -/

namespace Sys2Proof.Machine

/-- Makes a poll due for an attention-capable station, its timer stopping (R163, R164). -/
def Station.makePollDue (st : Station) : Station :=
  if st.attentionCapable then { st with pollDue := true, pollTimer := none } else st

/-- Whether sequence `s` is after `a`: (s - a) modulo 256 lies in 1..127 (R166). -/
def isAfter (s a : Byte) : Bool := 1 ≤ (s - a).toNat && (s - a).toNat ≤ 127

/-- Whether a queued item has the given station and code. -/
def AttentionItem.matches (item : AttentionItem) (i : StationId) (code : Byte) : Bool :=
  item.station = i && item.code = code

/-- The queue with an ATTN item merged into the item of the same station and code (R167, case 2). -/
def mergeItem (queue : List AttentionItem) (i : StationId) (e : AttnEntry) : List AttentionItem :=
  queue.map fun item =>
    if item.matches i e.code then
      { item with occurrences := min Config.maxOccurrences (item.occurrences + 1), info := e.info }
    else item

/-- Where the processing of an ATTN stands: the queue, the station's last accepted sequence, and whether processing
stopped. -/
structure AttnProgress where
  queue : List AttentionItem
  last : Byte
  stopped : Bool
  deriving DecidableEq, Repr

/-- Takes the items of an ATTN in order: each is ignored, merged, appended, or stops the processing (R166 to R168). -/
def takeItems (i : StationId) : List AttnEntry → List AttentionItem → Byte → AttnProgress
  | [], queue, last => { queue := queue, last := last, stopped := false }
  | e :: rest, queue, last =>
    if isAfter e.sequence last then
      if queue.any fun item => item.matches i e.code then takeItems i rest (mergeItem queue i e) e.sequence
      else if queue.length < Config.attentionItems then
        takeItems i rest (queue ++ [{ station := i, code := e.code, occurrences := 1, info := e.info }]) e.sequence
      else { queue := queue, last := last, stopped := true }
    else takeItems i rest queue last

/-- The poll bookkeeping at the end of a POLL (R169): due again at once, or the poll timer starts. A station that is not
attention capable is never due and its timer stays stopped (R163). -/
def Station.pollEnded (st : Station) (ticks : Nat) (again stopped : Bool) : Station :=
  { st with
    backlog := stopped
    pollDue := st.attentionCapable && again
    pollTimer := if st.attentionCapable && !again then some ticks else none }

/-- The end of a POLL with QUIET (R169). -/
def pollQuiet (i : StationId) (s : State) : State :=
  s.updateStation i fun st => st.pollEnded s.settings.pollTicks false false

/-- The end of a POLL with ATTN: its items are taken and the poll bookkeeping is set (R167 to R169). -/
def pollAttn (i : StationId) (items : List AttnEntry) (more : Bool) (s : State) : State :=
  let p := takeItems i items s.attention (s.station i).lastSequence
  let s1 := s.updateStation i fun st =>
    { st with lastSequence := p.last }.pollEnded s.settings.pollTicks (more && !p.stopped) p.stopped
  { s1 with attention := p.queue }

/-- Whether a POLL of the station is in flight. -/
def State.pollInFlight (s : State) (i : StationId) : Bool :=
  match s.exchange with
  | some x => x.kind = .poll && x.owner = .station i
  | none => false

/-- A removal by NEXT-ATTENTION makes a poll due for every backlogged station whose POLL is not in flight (R170). -/
def backlogPollsDue (s : State) : State :=
  { s with
    stations := tabulate fun i =>
      let st := s.station i
      if st.backlog && !s.pollInFlight i then st.makePollDue else st }

end Sys2Proof.Machine
end

