-- ==== Sys2Proof/Machine/Link.lean ====
section
/-! DEFINITION. The link and its stations (Chapter 2): entry to ONLINE, the LOST transition, the end of the drain, and
the effects of the link and station commands. -/

namespace Sys2Proof.Machine

/-! ### Entry to ONLINE (R37) -/

/-- A valid IDENTITY makes the station ONLINE and STATION is latched. -/
def enterOnline (i : StationId) (f : Identity) (s : State) : State :=
  (s.updateStation i fun st =>
    { st with
      state := .online
      toggle := false
      stationClass := f.stationClass
      revision := f.revision
      maxBurst := f.maxBurst
      parkCapable := f.parkCapable
      attentionCapable := f.attentionCapable
      lastSequence := f.attentionBase
      backlog := false
      pollDue := f.attentionCapable
      pollTimer := none }).latchStation

/-! ### The LOST transition (R38) -/

/-- The MODIFY part of an entry whose own exchange ended FAILED: its phase failed, and a failed write phase leaves
written UNKNOWN (R124, R125). -/
def ModifyPart.failed (m : ModifyPart) : ModifyPart :=
  { m with
    failedPhase := some m.phase
    written := match m.phase with
      | .write => .unknown
      | .read => m.written }

/-- The MODIFY part of an entry whose own exchange was answered by a NAK that ends the request: its phase failed
(R123 to R125). -/
def ModifyPart.refused (m : ModifyPart) : ModifyPart := { m with failedPhase := some m.phase }

/-- Applies a change to the MODIFY part of an entry that has one. -/
def Request.mapModify (f : ModifyPart → ModifyPart) (r : Request) : Request :=
  match r.kind with
  | .modify m => { r with kind := .modify (f m) }
  | .read | .confirmedWrite => r

/-- The owner of a FAILED exchange completes first: a request entry NO-RESPONSE, a stale window entry freed instead, a
posted entry freed with a NO-RESPONSE record; a POLL or IDENTIFY has no entry (step 1 of R38, R30, R107, R152). -/
def loseOwner (owner : Owner) (s : State) : State :=
  match owner with
  | .request t =>
    match s.request t with
    | some r =>
      if r.stale then freeRequest t s
      else completeRequest t .noResponse (s.updateRequest t (Request.mapModify ModifyPart.failed))
    | none => s
  | .posted p => freePosted p (some .noResponse) s
  | .station _ => s

/-- Another member of the queue of a lost station (step 2 of R38). -/
def loseMember (s : State) (x : EntryRef) : State :=
  match x with
  | .request t => completeRequest t .stationLost s
  | .posted p => freePosted p (some .stationLost) s

/-- The LOST transition of a station whose exchange, owned by `owner`, ended FAILED (R38, R173). -/
def lostTransition (i : StationId) (owner : Owner) (s : State) : State :=
  let s1 := loseOwner owner s
  let s2 := (s1.station i).queue.foldl loseMember s1
  (s2.updateStation i fun st =>
    { st with
      state := .lost, toggle := false, pollTimer := none, pollDue := false, backlog := false, queue := [] }).latchStation

/-! ### The end of the drain (R47) -/

/-- Completes an unfinished PORT entry with LINK-DOWN (R31). -/
def drainPort (s : State) (t : Tag) : State := completeRequest t .linkDown s

/-- Frees a posted entry with a LINK-DOWN record (R108). -/
def drainPosted (s : State) (p : PostedIndex) : State := freePosted p (some .linkDown) s

/-- The tags of the unfinished PORT entries, in order of acceptance (R31). -/
def State.unfinishedPorts (s : State) : List Tag :=
  byOrder ((List.finRange 16).filterMap fun t =>
    match s.request t with
    | some r => if r.unfinished && r.origin = .port then some (r.order, t) else none
    | none => none)

/-- The posted entries that are not FREE, in order of acceptance across all queues (R108). -/
def State.postedInOrder (s : State) : List PostedIndex :=
  byOrder ((List.finRange 16).filterMap fun p =>
    match s.postedEntry p with
    | some e => some (e.order, p)
    | none => none)

/-- A row of the Request Table with window entries freed (R31, R160). -/
def windowRowFreed : Option Request → Option Request
  | none => none
  | some r =>
    match r.origin with
    | .window _ => none
    | .port => some r

/-- A held read ends with 0FFFFh, ERROR and LINK-DOWN when the drain frees its entry (R160). -/
def endHeldRead (s : State) : State :=
  match s.access with
  | some (.read _ _ _) =>
    { s with
      access := none
      dataOut := some Config.allOnes
      windowStatus := { s.windowStatus with last := .error .linkDown } }
  | some (.write _ _ _) => s
  | none => s

/-- A station record at the end of the drain: ABSENT, its queue empty (R47, R173). -/
def Station.drained (st : Station) : Station :=
  { st with
    state := .absent, toggle := false, backlog := false, pollTimer := none, pollDue := false, queue := [] }

/-- The end of the drain (R47, R31, R108, R89, R160). -/
def drain (s : State) : State :=
  let s1 := s.unfinishedPorts.foldl drainPort s
  let s2 := { s1 with requests := tabulate fun t => windowRowFreed (s1.request t) }
  let s3 := s2.postedInOrder.foldl drainPosted s2
  let s4 := endHeldRead s3
  { s4 with
    stations := tabulate fun i => (s4.station i).drained
    broadcastQueue := []
    link := .down
    pass := []
    highPosition := 0
    lowPosition := 0
    starvation := 0
    latched := { s4.latched with link := true } }

/-- The drain ends when the link is DRAINING and no exchange is in flight (R46). -/
def drainIfIdle (s : State) : State :=
  if s.link = .draining ∧ s.exchange = none then drain s else s

/-! ### Link commands (R44, R46) -/

/-- The stations the expected station mask names, in ascending order (R42, R45). -/
def Settings.expectedStations (g : Settings) : List StationId := (List.finRange 14).filter g.expects

/-- LINK-START (R44). -/
def linkStart (s : State) : State :=
  if s.link = .down then
    match s.settings.expectedStations with
    | [] => ({ s with link := .up, pass := [] }.latchLink).setResult .accepted
    | i :: rest => { s with link := .enumerating, pass := i :: rest }.setResult .accepted
  else s.setResult .busy

/-- LINK-STOP (R46). -/
def linkStop (s : State) : State :=
  match s.link with
  | .down => s.setResult .wrongState
  | .draining => s.setResult .busy
  | .enumerating | .up => drainIfIdle ({ s with link := .draining }.setResult .accepted)

/-! ### Station commands (R33, R39, R48, R49) -/

/-- Carries out a station command on the station PARAMETER names, or returns BAD-STATION (R33). -/
def withStation (f : StationId → State → State) (s : State) : State :=
  match stationAt s.parameter.toNat with
  | none => s.setResult .badStation
  | some i => f i s

/-- STATION-HOLD (R39). -/
def stationHold (s : State) : State :=
  withStation (fun i s => (s.updateStation i fun st => { st with held := true }).setResult .accepted) s

/-- STATION-RESUME (R39). -/
def stationResume (s : State) : State :=
  withStation (fun i s => (s.updateStation i fun st => { st with held := false }).setResult .accepted) s

/-- A posted entry under STATION-FLUSH: an ACTIVE one gets flush pending, any other is freed with cause CANCELLED
(R106). -/
def flushPosted (p : PostedIndex) (s : State) : State :=
  match s.postedEntry p with
  | none => s
  | some e =>
    if e.state = .active then s.putPosted p (some { e with flushPending := true })
    else freePosted p (some .cancelled) s

/-- A member of the queue of a flushed station (R29, R49). -/
def flushMember (s : State) (x : EntryRef) : State :=
  match x with
  | .request t => cancelEntry t s
  | .posted p => flushPosted p s

/-- STATION-FLUSH (R49). -/
def stationFlush (s : State) : State :=
  withStation (fun i s => ((s.station i).queue.foldl flushMember s).setResult .accepted) s

/-- STATION-REJOIN (R48). -/
def stationRejoin (s : State) : State :=
  withStation
    (fun i s =>
      if s.link = .up then
        match (s.station i).state with
        | .online | .probing => s.setResult .wrongState
        | .lost | .absent => (s.updateStation i fun st => { st with state := .probing }).setResult .accepted
      else s.setResult .wrongState)
    s

end Sys2Proof.Machine
end

