-- ==== Sys2Proof/Machine/Requests.lean ====
section
/-! DEFINITION. The effects of the request and report commands: SUBMIT and the staging area, CANCEL, RELEASE, the
three NEXT commands and CONTROLLER-RESET (Chapters 1, 5, 9, 10, 11). -/

namespace Sys2Proof.Machine

/-! ### SUBMIT (R9 to R13, R101) -/

/-- The count staged, 0..31. -/
def Staging.words (g : Staging) : Nat := g.count.toNat

/-- The first condition of R9's table that holds, as its refusal code; none when the request is accepted. -/
def submitRefusal (s : State) : Option ResultCode :=
  let g := s.staging
  match stagedKind g.kind with
  | none => some .badKind
  | some kind =>
    let station := g.station.toNat
    if (if kind = .broadcastWrite then station ≠ 15 else stationAt station = none) then some .badStation
    else if g.words = 0 ∨ 16 < g.words ∨ (kind = .modify ∧ g.words ≠ 1) then some .badCount
    else if kind.isWrite ∧ (g.overflow ∨ g.data.length ≠ g.words) then some .badLength
    else if stagedMode g.mode = .increment ∧ kind ≠ .modify ∧ 0xFFFF < g.address.toNat + g.words - 1 then some .range
    else if kind = .modify ∧ stagedRelation g.relation = none then some .badRelation
    else if s.link ≠ .up ∧ s.link ≠ .enumerating then some .linkNotUp
    else if kind ≠ .broadcastWrite ∧ ((stationAt station).any fun i => !s.online i) then some .stationNotOnline
    else if kind.isPosted then
      if firstFree s.posted = none ∨ s.poolFree < g.words then some .postedFull else none
    else if firstFree s.requests = none then some .tableFull
    else none

/-- The MODIFY part at acceptance (R3). -/
def Staging.modifyPart (g : Staging) (relation : Relation) : ModifyPart where
  relation := relation
  operand := g.operand
  compareMask := g.compareMask
  newValue := g.newValue
  writeMask := g.writeMask
  phase := .read
  oldValue := none
  written := .no
  failedPhase := none

/-- The request entry a SUBMIT of a deferred kind makes (R2, R11). -/
def Staging.request (g : Staging) (kind : RequestKind) (station : StationId) (data : List Word) : Request where
  origin := .port
  kind := kind
  station := station
  start := g.address
  mode := stagedMode g.mode
  count := g.words
  data := data
  wordsDone := 0
  state := .queued
  busyCount := 0
  cancelPending := false
  abandonPending := false
  order := 0

/-- The posted entry a SUBMIT of a posted kind makes (R99, R101). -/
def Staging.posted (g : Staging) (target : Target) : Posted where
  origin := .port
  target := target
  start := g.address
  mode := stagedMode g.mode
  data := g.data
  wordsDone := 0
  state := .queued
  busyCount := 0
  flushPending := false
  order := 0

/-- Empties the staging data list and clears the staging-overflow flag (R7). -/
def clearStage (s : State) : State := { s with staging := { s.staging with data := [], overflow := false } }

/-- The end of an accepted SUBMIT: the staging data list is emptied, the result is ACCEPTED and SUBMIT TAG reads the
tag or index taken (R11, R12). -/
def accepted (n : Nat) (s : State) : State :=
  { clearStage s with result := .accepted, submitTag := field 4 n }

/-- Accepts a deferred request into the lowest-numbered FREE entry (R11). -/
def acceptDeferred (r : Request) (s : State) : State :=
  match firstFree s.requests with
  | none => s
  | some t => accepted t.val (acceptRequest t r s)

/-- Accepts a posted request into the lowest-numbered FREE posted entry (R12, R101); its acceptance marks window entries
stale (R114). -/
def acceptWrite (target : Target) (s : State) : State :=
  match firstFree s.posted with
  | none => s
  | some p => markStale target (accepted p.val (acceptPosted p (s.staging.posted target) s))

/-- The acceptance of a staged request that no check refuses (R11, R12). The entry taken is the lowest-numbered one that is
FREE when the command is taken; the marking of R114 follows, so an entry it frees is not the one taken. -/
def acceptStaged (s : State) : State :=
  let g := s.staging
  match stagedKind g.kind, stationAt g.station.toNat with
  | some .broadcastWrite, _ => acceptWrite .broadcast s
  | some .postedWrite, some i => acceptWrite (.station i) s
  | some .read, some i => acceptDeferred (g.request .read i []) s
  | some .confirmedWrite, some i =>
    markStale (.station i) (acceptDeferred (g.request .confirmedWrite i g.data) s)
  | some .modify, some i =>
    match stagedRelation g.relation with
    | some rel => markStale (.station i) (acceptDeferred (g.request (.modify (g.modifyPart rel)) i []) s)
    | none => s
  | _, _ => s

/-- SUBMIT (R9): the OPEN entry is closed, then the request is refused or accepted. -/
def submit (s : State) : State :=
  let s1 := closeOpen s
  match submitRefusal s1 with
  | some code => s1.setResult code
  | none => acceptStaged s1

/-- STAGE-CLEAR (R8). -/
def stageClear (s : State) : State := (clearStage s).setResult .accepted

/-! ### CANCEL and RELEASE (R25 to R28) -/

/-- CANCEL (R26 to R28). -/
def cancel (s : State) : State :=
  match tagAt s.parameter.toNat with
  | none => s.setResult .noSuchTag
  | some t =>
    match s.request t with
    | none => s.setResult .noSuchTag
    | some r =>
      match r.origin with
      | .window _ => s.setResult .wrongState
      | .port =>
        match r.state with
        | .done _ | .delivered _ => s.setResult .tooLate
        | .queued | .active | .waiting _ | .parked _ => (cancelEntry t s).setResult .accepted

/-- RELEASE (R25). -/
def release (s : State) : State :=
  match tagAt s.parameter.toNat with
  | none => s.setResult .noSuchTag
  | some t =>
    match s.request t with
    | none => s.setResult .noSuchTag
    | some r =>
      match r.origin, r.state with
      | .port, .delivered _ => (s.putRequest t none).setResult .accepted
      | _, _ => s.setResult .wrongState

/-! ### NEXT-COMPLETION and the data port (R22 to R24) -/

/-- The completion record latched from an entry with the given tag and status (R23). -/
def Request.record (r : Request) (t : Tag) (status : Status) : CompletionRecord :=
  let base : CompletionRecord :=
    { tag := field 4 t.val
      kind := r.kind.code
      station := field 4 (stationAddress r.station)
      status := status.code
      wordsDone := field 5 r.wordsDone
      oldPresent := false
      written := 0
      failedPhase := 0
      oldValue := 0 }
  match r.kind with
  | .modify m =>
    { base with
      oldPresent := m.oldValue.isSome
      written := m.written.code
      failedPhase := failedPhaseCode m.failedPhase
      oldValue := m.oldValue.getD 0 }
  | .read | .confirmedWrite => base

/-- NEXT-COMPLETION (R22). -/
def nextCompletion (s : State) : State :=
  match s.completionList with
  | [] => s.setResult .empty
  | t :: rest =>
    let s1 := { s with completionList := rest }
    match s.request t with
    | some r =>
      match r.state with
      | .done status =>
        { s1.putRequest t (some { r with state := .delivered status }) with
          completion := r.record t status, dataPosition := 0, result := .accepted }
      | .queued | .active | .waiting _ | .parked _ | .delivered _ => s1.setResult .accepted
    | none => s1.setResult .accepted

/-- The word the data port shows: the word at the current position of the entry the completion record names while it is
DELIVERED, if the position is less than its words done; 0000h otherwise (R24). -/
def State.dataPortWord (s : State) : Word :=
  match tagAt s.completion.tag.toNat with
  | none => 0#16
  | some t =>
    match s.request t with
    | none => 0#16
    | some r =>
      match r.state with
      | .delivered _ => if s.dataPosition < r.wordsDone then r.data.getD s.dataPosition 0#16 else 0#16
      | .queued | .active | .waiting _ | .parked _ | .done _ => 0#16

/-- A host read of DATA PORT (R24): the word is returned and the position advances by one, up to 16. -/
def dataPortRead (s : State) : State :=
  { s with dataOut := some s.dataPortWord, dataPosition := min Config.maxDataPosition (s.dataPosition + 1) }

/-! ### NEXT-ATTENTION and NEXT-FAULT (R171, R177) -/

/-- NEXT-ATTENTION (R171, R170). -/
def nextAttention (s : State) : State :=
  match s.attention with
  | [] => s.setResult .empty
  | item :: rest =>
    (backlogPollsDue
      { s with
        attention := rest
        attentionRecord :=
          { station := field 4 (stationAddress item.station)
            code := item.code
            occurrences := field 8 item.occurrences
            info := item.info } }).setResult .accepted

/-- NEXT-FAULT (R177). -/
def nextFault (s : State) : State :=
  match s.faults with
  | [] => s.setResult .empty
  | f :: rest =>
    { s with
      faults := rest
      dropped := if rest.isEmpty then 0 else s.dropped
      faultRegisters :=
        { cause := f.cause.code
          station := field 4 f.target.address
          address := f.address
          wordsDone := field 5 f.wordsDone
          dropped := if rest.isEmpty then field 8 s.dropped else 0#8 }
      result := .accepted }

/-! ### CONTROLLER-RESET (R51, R192) -/

/-- CONTROLLER-RESET: every field takes its reset value but the configuration registers, the interrupt enables and
STATION SELECT; COMMAND keeps the code just written and the result is ACCEPTED. What is outside the block (the queue of
commands, the accesses on the bus, the input levels) is not reset. -/
def controllerReset (s : State) : State :=
  { State.reset with
    pending := s.pending
    command := s.command
    settings := s.settings
    enables := s.enables
    stationSelect := s.stationSelect
    portWaiting := s.portWaiting
    dataOut := s.dataOut
    holdInput := s.holdInput
    resetInput := s.resetInput }

/-! ### The command table (R187) -/

/-- The effect of each command, with COMMAND already holding its code. -/
def commandEffect : HostCommand → State → State
  | .submit => submit
  | .stageClear => stageClear
  | .cancel => cancel
  | .nextCompletion => nextCompletion
  | .release => release
  | .nextAttention => nextAttention
  | .nextFault => nextFault
  | .linkStart => linkStart
  | .linkStop => linkStop
  | .stationHold => stationHold
  | .stationResume => stationResume
  | .stationFlush => stationFlush
  | .stationRejoin => stationRejoin
  | .controllerReset => controllerReset

/-- A write to COMMAND of a command's code (R187): the code is stored and the command carried out. -/
def runCommand (c : HostCommand) (s : State) : State := commandEffect c { s with command := commandCode c }

/-- A write to COMMAND of any code (R187): a code that names no command writes BAD-COMMAND and changes no other state. -/
def commandWrite (code : Byte) (s : State) : State :=
  match commandOf code with
  | some c => runCommand c s
  | none => { s with command := code, result := .badCommand }

end Sys2Proof.Machine
end

