-- ==== Sys2Proof/Machine/Aperture.lean ====
section
/-! DEFINITION. The window unit (Chapter 8): aperture reads and writes, their holds, and what ends a hold. -/

namespace Sys2Proof.Machine

/-! ### Window status and returned words (R142) -/

/-- An aperture read ends: it returns a word and sets last outcome and code. -/
def State.endRead (s : State) (word : Word) (outcome : WindowOutcome) : State :=
  { s with dataOut := some word, windowStatus := { s.windowStatus with last := outcome } }

/-- Sets discarded-seen. -/
def State.setDiscarded (s : State) : State :=
  { s with windowStatus := { s.windowStatus with discardedSeen := true } }

/-! ### Matching (R143) -/

/-- Whether a request entry matches an aperture read of an address of a station (R143). -/
def Request.matches (r : Request) (station : StationId) (address : Word) : Bool :=
  match r.origin with
  | .port => false
  | .window w =>
    r.station = station && !w.stale && r.start.toNat + w.front ≤ address.toNat &&
      address.toNat < r.start.toNat + r.count

/-- The tags of the entries that satisfy a test, earliest accepted first. -/
def State.requestsWhere (s : State) (test : Request → Bool) : List Tag :=
  byOrder ((List.finRange 16).filterMap fun t =>
    match s.request t with
    | some r => if test r then some (r.order, t) else none
    | none => none)

/-- The match of an aperture read: of several, the one accepted earliest (R143). -/
def State.windowMatch (s : State) (address : Word) : Option Tag :=
  (s.requestsWhere fun r => r.matches s.settings.windowStation address).head?

/-! ### Hits (R144, R145) -/

/-- A hit on entry `t`: the word is returned, the front moves past it, and the entry is freed when the front reaches its
count (R144). -/
def hit (t : Tag) (r : Request) (w : WindowPart) (address : Word) (s : State) : State :=
  let i := address.toNat - r.start.toNat
  let s1 := s.endRead (r.data.getD i 0#16) .ok
  if i + 1 = r.count then freeRequest t s1
  else s1.putRequest t (some { r with origin := .window { w with front := i + 1, held := false } })

/-- An error hit on entry `t`: 0FFFFh is returned, ERROR with the status is reported, and the entry is freed (R145). -/
def errorHit (t : Tag) (status : Status) (s : State) : State :=
  freeRequest t (s.endRead Config.allOnes (.error status))

/-- Answers a read from a DONE window entry (R143): a hit with SUCCESS, an error hit with any other status. -/
def answer (t : Tag) (r : Request) (w : WindowPart) (status : Status) (address : Word) (s : State) : State :=
  if status = .success then hit t r w address s else errorHit t status s

/-- Begins the hold of a read on entry `t` (R149): the held mark is set and the hold timer starts. -/
def beginReadHold (t : Tag) (r : Request) (w : WindowPart) (address : Word) (s : State) : State :=
  { s.putRequest t (some { r with origin := .window { w with held := true } }) with
    access := some (.read t address s.settings.holdTicks) }

/-! ### Misses (R146 to R148) -/

/-- Whether a window entry is DONE, and so may be reclaimed (R147). -/
def Request.reclaimable (r : Request) : Bool :=
  match r.origin, r.state with
  | .window _, .done _ => true
  | _, _ => false

/-- A miss needs a reclaim when the quota of four is full or no request entry is FREE (R147). -/
def State.needsReclaim (s : State) : Bool :=
  Config.windowQuota ≤ s.windowEntries || (firstFree s.requests).isNone

/-- The DONE window entry accepted earliest, of any station (R147). -/
def State.reclaimTarget (s : State) : Option Tag := (s.requestsWhere Request.reclaimable).head?

/-- The window entry a miss creates (R148). -/
def windowRequest (g : Settings) (offset : BitVec 4) : Request where
  origin := .window { front := 0, stale := false, held := true, discard := none }
  kind := .read
  station := g.windowStation
  start := apertureAddress g offset
  mode := .increment
  count := if g.prefetch then 16 - offset.toNat else 1
  data := []
  wordsDone := 0
  state := .queued
  busyCount := 0
  cancelPending := false
  abandonPending := false
  order := 0

/-- Creates the window entry of a miss in the lowest-numbered FREE entry and holds the read on it (R148). -/
def createWindow (offset : BitVec 4) (s : State) : State :=
  match firstFree s.requests with
  | none => s.endRead Config.allOnes (.refused .tableFull)
  | some t =>
    { acceptRequest t (windowRequest s.settings offset) s with
      access := some (.read t (apertureAddress s.settings offset) s.settings.holdTicks) }

/-- A miss (R146 to R148): refused, or served after at most one reclaim. -/
def miss (offset : BitVec 4) (s : State) : State :=
  if s.link ≠ .up then s.endRead Config.allOnes (.refused .linkNotUp)
  else if !s.online s.settings.windowStation then s.endRead Config.allOnes (.refused .stationNotOnline)
  else if s.needsReclaim then
    match s.reclaimTarget with
    | none => s.endRead Config.allOnes (.refused .tableFull)
    | some t => createWindow offset (freeRequest t s).setDiscarded
  else createWindow offset s

/-- An aperture read (R143): the OPEN entry is closed, then the read is a hit, an error hit, a hold or a miss. -/
def apertureRead (offset : BitVec 4) (s : State) : State :=
  let s1 := closeOpen s
  let address := apertureAddress s1.settings offset
  match s1.windowMatch address with
  | none => miss offset s1
  | some t =>
    match s1.request t with
    | none => s1
    | some r =>
      match r.origin with
      | .port => s1
      | .window w =>
        match r.state with
        | .done status | .delivered status => answer t r w status address s1
        | .queued | .active | .waiting _ | .parked _ => beginReadHold t r w address s1

/-! ### Aperture writes (R153 to R159) -/

/-- A dropped aperture write: a WINDOW-WRITE-DROPPED record and dropped-write-seen (R159). -/
def dropWrite (address : Word) (s : State) : State :=
  { s.appendFault
      { cause := .windowWriteDropped, target := .station s.settings.windowStation, address := address, wordsDone := 0 }
    with windowStatus := { s.windowStatus with droppedSeen := true } }

/-- The posted entry an aperture write opens (R155). -/
def windowPosted (g : Settings) (address value : Word) : Posted where
  origin := .window
  target := .station g.windowStation
  start := address
  mode := .increment
  data := [value]
  wordsDone := 0
  state := .opened
  busyCount := 0
  flushPending := false
  order := 0

/-- Whether an aperture write finds posted space: a FREE entry and a free pool word (R153, R157). -/
def State.postedSpace (s : State) : Bool := (firstFree s.posted).isSome && 1 ≤ s.poolFree

/-- Opens a new entry for an aperture word (R155): the lowest-numbered FREE posted entry; the acceptance marks the window
entries of the station stale. -/
def openEntryFor (address value : Word) (s : State) : State :=
  match firstFree s.posted with
  | none => s
  | some p =>
    markStale (.station s.settings.windowStation) (acceptPosted p (windowPosted s.settings address value) s)

/-- A posted entry with an aperture word appended; sixteen words close it (R154). -/
def Posted.append (e : Posted) (value : Word) : Posted :=
  { e with
    data := e.data ++ [value]
    state := if e.count + 1 = Config.entryWords then .queued else e.state }

/-- Appends an aperture word to the OPEN entry (R154); the acceptance marks the window entries of the station stale. -/
def appendTo (p : PostedIndex) (e : Posted) (value : Word) (s : State) : State :=
  markStale (.station s.settings.windowStation) (s.putPosted p (some (e.append value)))

/-- Whether an aperture write of an address extends an OPEN entry (case 2 of R153). -/
def State.extends (s : State) (e : Posted) (address : Word) : Bool :=
  address.toNat = e.start.toNat + e.count && e.count < Config.entryWords && 1 ≤ s.poolFree

/-- An aperture write that opens a new entry or is held for space (case 3 of R153). -/
def openOrHold (address value : Word) (s : State) : State :=
  let s1 := closeOpen s
  if s1.postedSpace then openEntryFor address value s1
  else { s1 with access := some (.write address value s1.settings.holdTicks) }

/-- An aperture write (R153). -/
def apertureWrite (offset : BitVec 4) (value : Word) (s : State) : State :=
  let address := apertureAddress s.settings offset
  if s.link ≠ .up ∨ !s.online s.settings.windowStation then dropWrite address s
  else
    match s.openEntry with
    | none => openOrHold address value s
    | some p =>
      match s.postedEntry p with
      | none => openOrHold address value s
      | some e => if s.extends e address then appendTo p e value s else openOrHold address value s

/-! ### What ends a hold (R149, R150, R157) -/

/-- The entry a read is held on is DONE: the read is answered as a hit or an error hit (R149). -/
def answerHeldRead (s : State) : State :=
  match s.access with
  | some (.read t address _) =>
    match s.request t with
    | some r =>
      match r.origin, r.state with
      | .window w, .done status => answer t r w status address { s with access := none }
      | _, _ => s
    | none => s
  | some (.write _ _ _) => s
  | none => s

/-- The window station is not ONLINE while a write is held: the write is dropped (R157). -/
def dropHeldWrite (s : State) : State :=
  match s.access with
  | some (.write address _ _) =>
    if s.online s.settings.windowStation then s else dropWrite address { s with access := none }
  | some (.read _ _ _) => s
  | none => s

/-- Posted space exists while a write is held: the write opens an entry, or is dropped when the window station is not
ONLINE (R157). An OPEN entry was closed before the hold began (R153), so the closure here finds none. -/
def giveHeldWriteSpace (s : State) : State :=
  match s.access with
  | some (.write address value _) =>
    if s.postedSpace then
      if s.online s.settings.windowStation then openEntryFor address value (closeOpen { s with access := none })
      else dropWrite address { s with access := none }
    else s
  | some (.read _ _ _) => s
  | none => s

/-- What a happening does to the held access once its other effects have taken place (R149, R157): a held read whose
entry is DONE is answered, a held write whose station is no longer ONLINE is dropped, a held write that finds space is
accepted. -/
def settleHeld (s : State) : State := giveHeldWriteSpace (dropHeldWrite (answerHeldRead s))

/-- The hold timer of a held read expires: the read returns 0FFFFh as DEFERRED and its entry goes on (R150). -/
def expireReadHold (s : State) : State :=
  match s.access with
  | some (.read t _ _) =>
    let s1 := s.updateRequest t fun r =>
      match r.origin with
      | .window w => { r with origin := .window { w with held := false } }
      | .port => r
    { s1 with
      access := none
      dataOut := some Config.allOnes
      windowStatus := { s.windowStatus with last := .deferred, deferredSeen := true } }
  | some (.write _ _ _) => s
  | none => s

/-- The hold timer of a held write expires: the write is dropped (R157). -/
def expireWriteHold (s : State) : State :=
  match s.access with
  | some (.write address _ _) => dropWrite address { s with access := none }
  | some (.read _ _ _) => s
  | none => s

end Sys2Proof.Machine
end

