-- ==== Sys2Proof/WellFormed.lean ====
section
/-! DEFINITION. Which operands belong to a row of the table. The types of `Instr` already confine tags, stations and
aperture offsets; what is left are the rows told apart from others by the value of an operand. -/

namespace Sys2Proof

/-- The locations below the aperture whose write is a row of its own in the table: COMMAND, STAGE DATA, INTERRUPT
CAUSE, INTERRUPT ENABLE, WINDOW STATUS, WINDOW STATION, PAGE BASE, PREFETCH and TIMEBASE. -/
def ownRowLocations : List (BitVec 6) :=
  [0x03#6, 0x0F#6, 0x1D#6, 0x1E#6, 0x1F#6, 0x20#6, 0x21#6, 0x22#6, 0x27#6]

/-- A reception is a string of bits: at most 15 bits are left over after its last whole word. -/
def Reception.wf (r : Reception) : Bool := r.extraBits < 16

/-- The operands are those of the row the constructor stands for: a BAD_COMMAND's code names no command, a
REGISTER_WRITE's location has no row of its own and is below the aperture, a reception is a string of bits. -/
def Instr.wf : Instr → Bool
  | .badCommand code => (commandOf code).isNone
  | .registerWrite location _ => location < 0x30#6 && !ownRowLocations.contains location
  | .receptionEnd r => r.wf
  | .discardedFrame r => r.wf
  | _ => true

end Sys2Proof
end

