-- ==== Sys2Proof/Machine/Registers.lean ====
section
/-! DEFINITION. The register map (Chapter 11): what each location reads, and what a write to each location does. -/

namespace Sys2Proof.Machine

/-! ### Reads (R184, R191) -/

/-- A bit of a location, as a word. -/
def bit (position : Nat) (b : Bool) : Word := if b then 1#16 <<< position else 0#16

/-- A field of a location, as a word with the field's lowest bit at a position. -/
def place {width : Nat} (position : Nat) (v : BitVec width) : Word := (v.setWidth 16) <<< position

/-- STATUS (R191). -/
def State.readStatus (s : State) : Word :=
  place 0 s.link.code ||| bit 3 s.holdInput ||| place 8 (field 6 s.attention.length)

/-- STAGE STATUS (R7). -/
def State.readStageStatus (s : State) : Word :=
  place 0 (field 5 s.staging.data.length) ||| bit 8 s.staging.overflow

/-- COMPLETION A and COMPLETION B (R23). -/
def CompletionRecord.readA (c : CompletionRecord) : Word :=
  place 0 c.tag ||| place 4 c.kind ||| place 8 c.station ||| place 12 c.status

def CompletionRecord.readB (c : CompletionRecord) : Word :=
  place 0 c.wordsDone ||| bit 8 c.oldPresent ||| place 9 c.written ||| place 12 c.failedPhase

/-- EXCHANGE STATUS (R75, R191): 0 in every field while the engine is IDLE. -/
def State.readExchange (s : State) : Word :=
  match s.exchange with
  | none => 0#16
  | some x =>
    place 0 (field 5 x.attempt) ||| place 5 x.phase.code ||| place 8 x.kind.code |||
      place 12 (field 4 x.destination.address)

/-- INTERRUPT CAUSE and INTERRUPT ENABLE share their positions (R184). -/
def Causes.read (c : Causes) : Word :=
  bit 0 c.completion ||| bit 1 c.attention ||| bit 2 c.fault ||| bit 8 c.station ||| bit 9 c.link ||| bit 10 c.window

/-- WINDOW STATUS (R142). -/
def WindowStatus.read (w : WindowStatus) : Word :=
  place 0 w.last.code ||| place 8 w.last.detail ||| bit 13 w.deferredSeen ||| bit 14 w.discardedSeen |||
    bit 15 w.droppedSeen

/-- STATION STATUS of a station (R34, R188). -/
def State.readStation (s : State) (i : StationId) : Word :=
  let st := s.station i
  place 0 st.state.code ||| bit 2 st.held ||| bit 3 (s.settings.isLow i) ||| bit 4 st.parkCapable |||
    bit 5 st.attentionCapable ||| bit 6 st.backlog ||| bit 7 st.pollDue ||| bit 8 st.toggle |||
    place 9 (field 6 st.queue.length)

/-- The value a read of a location below the aperture returns (R184). DATA PORT shows the word at the data port
position; the read that advances the position is `dataPortRead`. -/
def State.readLocation (s : State) (location : BitVec 6) : Word :=
  match location.toNat with
  | 0x00 => Config.partCode
  | 0x01 => Config.revision
  | 0x02 => s.readStatus
  | 0x03 => place 0 s.command
  | 0x04 => place 0 s.result.code
  | 0x05 => s.parameter
  | 0x06 => place 0 s.submitTag
  | 0x07 => s.readStageStatus
  | 0x08 => place 0 s.staging.kind ||| place 4 s.staging.mode ||| place 8 s.staging.relation
  | 0x09 => place 0 s.staging.station ||| place 8 s.staging.count
  | 0x0A => s.staging.address
  | 0x0B => s.staging.operand
  | 0x0C => s.staging.compareMask
  | 0x0D => s.staging.newValue
  | 0x0E => s.staging.writeMask
  | 0x10 => s.completion.readA
  | 0x11 => s.completion.readB
  | 0x12 => s.completion.oldValue
  | 0x13 => s.dataPortWord
  | 0x14 => place 0 s.attentionRecord.station ||| place 8 s.attentionRecord.code
  | 0x15 => place 0 s.attentionRecord.occurrences
  | 0x16 => s.attentionRecord.info
  | 0x17 => place 0 s.faultRegisters.cause ||| place 8 s.faultRegisters.station
  | 0x18 => s.faultRegisters.address
  | 0x19 => place 0 s.faultRegisters.wordsDone ||| place 8 s.faultRegisters.dropped
  | 0x1A => place 0 (field 4 s.faults.length) ||| place 8 (field 8 s.dropped)
  | 0x1B => place 0 (field 5 (freeCount s.posted)) ||| place 8 (field 8 s.poolFree)
  | 0x1C => s.readExchange
  | 0x1D => s.causes.read
  | 0x1E => s.enables.read
  | 0x1F => s.windowStatus.read
  | 0x20 => field 16 (stationAddress s.settings.windowStation)
  | 0x21 => place 4 s.settings.pageBase
  | 0x22 => bit 0 s.settings.prefetch
  | 0x23 => field 16 (stationAddress s.stationSelect)
  | 0x24 => s.readStation s.stationSelect
  | 0x25 => field 16 (s.station s.stationSelect).maxBurst ||| place 8 (s.station s.stationSelect).revision
  | 0x26 => (s.station s.stationSelect).stationClass
  | 0x27 => place 0 s.settings.timebaseDivisor
  | 0x28 => place 0 s.settings.replyWindow ||| place 8 s.settings.bitRate ||| place 12 s.settings.retryLimit
  | 0x29 => place 0 s.settings.busyLimit ||| place 8 s.settings.busyBackoff
  | 0x2A => place 0 s.settings.parkLimit ||| place 8 s.settings.collectInterval
  | 0x2B => place 0 s.settings.pollInterval ||| place 8 s.settings.holdLimit
  | 0x2C => place 0 s.settings.discardTime
  | 0x2D => place 1 s.settings.expected
  | 0x2E => place 1 s.settings.tiers
  | _ => 0#16

/-! ### Configuration fields (R185) -/

/-- The value a configuration register has after a field value is offered to it: taken when in range, kept otherwise. -/
def offered {width : Nat} (inRange : BitVec width → Bool) (kept value : BitVec width) : BitVec width :=
  if inRange value then value else kept

/-- The range of a register that refuses 0 (R185). -/
def nonzero {width : Nat} (v : BitVec width) : Bool := v != 0

/-- LINK CONFIG, location 28h: reply window 4..255, bit rate, retry limit. -/
def writeLinkConfig (v : Word) (g : Settings) : Settings :=
  { g with
    replyWindow := offered (fun x : Byte => 4 ≤ x.toNat) g.replyWindow (v.extractLsb' 0 8)
    bitRate := v.extractLsb' 8 2
    retryLimit := v.extractLsb' 12 4 }

/-- BUSY CONFIG, location 29h: busy limit, busy backoff 1..255. -/
def writeBusyConfig (v : Word) (g : Settings) : Settings :=
  { g with
    busyLimit := v.extractLsb' 0 8
    busyBackoff := offered nonzero g.busyBackoff (v.extractLsb' 8 8) }

/-- PARK CONFIG, location 2Ah: park limit 1..255, collect interval 1..255. -/
def writeParkConfig (v : Word) (g : Settings) : Settings :=
  { g with
    parkLimit := offered nonzero g.parkLimit (v.extractLsb' 0 8)
    collectInterval := offered nonzero g.collectInterval (v.extractLsb' 8 8) }

/-- POLL AND HOLD, location 2Bh: poll interval 1..255, hold limit 1..63. -/
def writePollAndHold (v : Word) (g : Settings) : Settings :=
  { g with
    pollInterval := offered nonzero g.pollInterval (v.extractLsb' 0 8)
    holdLimit := offered nonzero g.holdLimit (v.extractLsb' 8 6) }

/-- DISCARD TIME, location 2Ch: 1..255. -/
def writeDiscardTime (v : Word) (g : Settings) : Settings :=
  { g with discardTime := offered nonzero g.discardTime (v.extractLsb' 0 8) }

/-! ### Writes -/

/-- A write to STAGE DATA (R7). -/
def stageDataWrite (v : Word) (s : State) : State :=
  if s.staging.data.length < Config.stagingWords then
    { s with staging := { s.staging with data := s.staging.data ++ [v] } }
  else { s with staging := { s.staging with overflow := true } }

/-- A write to INTERRUPT CAUSE clears each latched cause written with one (R180). -/
def interruptCauseWrite (v : Word) (s : State) : State :=
  { s with
    latched :=
      { station := s.latched.station && !v.getLsbD 8
        link := s.latched.link && !v.getLsbD 9
        window := s.latched.window && !v.getLsbD 10 } }

/-- A write to INTERRUPT ENABLE sets the six enables (R181). -/
def interruptEnableWrite (v : Word) (s : State) : State :=
  { s with
    enables :=
      { completion := v.getLsbD 0
        attention := v.getLsbD 1
        fault := v.getLsbD 2
        station := v.getLsbD 8
        link := v.getLsbD 9
        window := v.getLsbD 10 } }

/-- A write to WINDOW STATUS clears each sticky flag written with one (R142). -/
def windowStatusWrite (v : Word) (s : State) : State :=
  { s with
    windowStatus :=
      { s.windowStatus with
        deferredSeen := s.windowStatus.deferredSeen && !v.getLsbD 13
        discardedSeen := s.windowStatus.discardedSeen && !v.getLsbD 14
        droppedSeen := s.windowStatus.droppedSeen && !v.getLsbD 15 } }

/-- A write to WINDOW STATION takes a value in 1..14, closing the OPEN entry when taken (R141). -/
def windowStationWrite (v : Word) (s : State) : State :=
  match stationAt (v.extractLsb' 0 4).toNat with
  | none => s
  | some i => closeOpen { s with settings := { s.settings with windowStation := i } }

/-- A write to PAGE BASE ignores bits 3..0 and closes the OPEN entry (R141). -/
def pageBaseWrite (v : Word) (s : State) : State :=
  closeOpen { s with settings := { s.settings with pageBase := v.extractLsb' 4 12 } }

/-- A write to PREFETCH sets prefetch and closes the OPEN entry (R141). -/
def prefetchWrite (v : Word) (s : State) : State :=
  closeOpen { s with settings := { s.settings with prefetch := v.getLsbD 0 } }

/-- A write to TIMEBASE takes a divisor in 8..32 while the link is DOWN (R186). -/
def timebaseWrite (v : Word) (s : State) : State :=
  let d : BitVec 6 := v.extractLsb' 0 6
  if s.link = .down ∧ 8 ≤ d.toNat ∧ d.toNat ≤ 32 then
    { s with settings := { s.settings with timebaseDivisor := d } }
  else s

/-- A write to STATION SELECT takes a value in 1..14 (R188). -/
def stationSelectWrite (v : Word) (s : State) : State :=
  match stationAt (v.extractLsb' 0 4).toNat with
  | none => s
  | some i => { s with stationSelect := i }

/-- Changes the staging fields (R6). -/
def State.stage (s : State) (f : Staging → Staging) : State := { s with staging := f s.staging }

/-- Changes the configuration registers. -/
def State.configure (s : State) (f : Settings → Settings) : State := { s with settings := f s.settings }

/-- A write to a location that has no row of its own in the table: a staging field, PARAMETER, STATION SELECT, a
configuration location, a read-only location or the unassigned one (R184, R185, R188, R6). -/
def plainWrite (location : BitVec 6) (v : Word) (s : State) : State :=
  match location.toNat with
  | 0x05 => { s with parameter := v }
  | 0x08 => s.stage fun g =>
      { g with kind := v.extractLsb' 0 4, mode := v.extractLsb' 4 1, relation := v.extractLsb' 8 3 }
  | 0x09 => s.stage fun g => { g with station := v.extractLsb' 0 4, count := v.extractLsb' 8 5 }
  | 0x0A => s.stage fun g => { g with address := v }
  | 0x0B => s.stage fun g => { g with operand := v }
  | 0x0C => s.stage fun g => { g with compareMask := v }
  | 0x0D => s.stage fun g => { g with newValue := v }
  | 0x0E => s.stage fun g => { g with writeMask := v }
  | 0x23 => stationSelectWrite v s
  | 0x28 => s.configure (writeLinkConfig v)
  | 0x29 => s.configure (writeBusyConfig v)
  | 0x2A => s.configure (writeParkConfig v)
  | 0x2B => s.configure (writePollAndHold v)
  | 0x2C => s.configure (writeDiscardTime v)
  | 0x2D => s.configure fun g => { g with expected := v.extractLsb' 1 14 }
  | 0x2E => s.configure fun g => { g with tiers := v.extractLsb' 1 14 }
  | _ => s

/-- A write to any location of the host window (R184). -/
def writeLocation (location : BitVec 6) (v : Word) (s : State) : State :=
  match location.toNat with
  | 0x03 => commandWrite (v.extractLsb' 0 8) s
  | 0x0F => stageDataWrite v s
  | 0x1D => interruptCauseWrite v s
  | 0x1E => interruptEnableWrite v s
  | 0x1F => windowStatusWrite v s
  | 0x20 => windowStationWrite v s
  | 0x21 => pageBaseWrite v s
  | 0x22 => prefetchWrite v s
  | 0x27 => timebaseWrite v s
  | n => if 0x30 ≤ n then apertureWrite (location.extractLsb' 0 4) v s else plainWrite location v s

/-- A read of any location of the host window (R184): the aperture goes to the window unit, DATA PORT advances its
position, any other read changes nothing but the word returned. -/
def readAccess (location : BitVec 6) (s : State) : State :=
  match location.toNat with
  | 0x13 => dataPortRead s
  | n =>
    if 0x30 ≤ n then apertureRead (location.extractLsb' 0 4) s
    else { s with dataOut := some (s.readLocation location) }

end Sys2Proof.Machine
end

