-- ==== Sys2Proof/Machine/Port.lean ====
section
/-! DEFINITION. The host port (R183, R192): one access at a time, and the accesses stretched behind a held one. -/

namespace Sys2Proof.Machine

/-- Takes a host access, whatever location it names (R183, R184). -/
def takeAccess (a : HostAccess) (s : State) : State :=
  match a with
  | .read location => readAccess location s
  | .write location v => writeLocation location v s

/-- Whether the port is taken: an access is held, or one that was stretched behind a hold is still to be taken (R183). -/
def State.portBusy (s : State) : Bool := s.access.isSome || !s.portWaiting.isEmpty

/-- A host access reaches the port (R183): while RESET is asserted none is taken; while the port is taken it waits behind
what stands there; otherwise it is taken, with the given effect. -/
def onPort (a : HostAccess) (effect : State → State) (s : State) : State :=
  if s.resetInput then s
  else if s.portBusy then { s with portWaiting := s.portWaiting ++ [a] }
  else effect s

/-- Whether a stretched access can be taken: the hold before it has ended and RESET is not asserted (R183). -/
def State.takesWaiting (s : State) : Bool := !s.resetInput && s.access.isNone && !s.portWaiting.isEmpty

/-- The happening in which the oldest stretched access is taken, after the hold before it has ended (R183); the others wait
on. DESIGN CHOICE, unsafe (assumption log 5): it is taken also where the host has withdrawn its strobe meanwhile, of which
R183 speaks for the held access only. -/
def takeWaiting (s : State) : State :=
  match s.portWaiting with
  | [] => s
  | a :: rest => takeAccess a { s with portWaiting := rest }

end Sys2Proof.Machine
end

