-- ==== Sys2Proof/Machine/Scheduler.lean ====
section
/-! DEFINITION. The link scheduler (sections 4.5 and 4.6, the broadcast barrier of section 5.6): candidates, eligibility,
the choice of tier and station, and the start of an exchange. -/

namespace Sys2Proof.Machine

/-! ### The broadcast barrier (R112, R113) -/

/-- Whether a request entry accepted before `order` holds a broadcast back: it is QUEUED, ACTIVE or WAITING. -/
def Request.holdsBack (r : Request) (order : Nat) : Bool :=
  r.order < order &&
    match r.state with
    | .queued | .active | .waiting _ => true
    | .parked _ | .done _ | .delivered _ => false

/-- The head of the broadcast queue is allowed when no entry of a station queue accepted before it is QUEUED, ACTIVE,
WAITING or OPEN (R112). -/
def State.broadcastAllowed (s : State) (order : Nat) : Bool :=
  ((List.finRange 16).all fun t =>
    match s.request t with
    | some r => !r.holdsBack order
    | none => true) &&
  (List.finRange 16).all fun p =>
    match s.postedEntry p with
    | some e => e.target = .broadcast || order ≤ e.order
    | none => true

/-- An entry is barred while a broadcast accepted before it is still in the broadcast queue (R113). -/
def State.barred (s : State) (order : Nat) : Bool :=
  s.broadcastQueue.any fun p =>
    match s.postedEntry p with
    | some e => e.order < order
    | none => false

/-! ### Candidates (R92, R93) -/

/-- What a grant can take for a station, in the order of preference of R92. -/
inductive Candidate where
  | identify
  | abandon (t : Tag)
  | collect (t : Tag)
  | modifyWrite (t : Tag)
  | poll
  | requestSegment (t : Tag)
  | postedSegment (p : PostedIndex)
  deriving DecidableEq, Repr

/-- Whether the head of a queue is a MODIFY in phase WRITE, in any state: it suppresses the station's POLL (R93). -/
def State.headInWritePhase (s : State) (i : StationId) : Bool :=
  match (s.station i).queue.head? with
  | some (.request t) =>
    match s.request t with
    | some r => match r.kind with
      | .modify m => m.phase = .write
      | .read | .confirmedWrite => false
    | none => false
  | some (.posted _) => false
  | none => false

/-- Candidates 2 to 4 of R92, those that come before the POLL: they belong to a PARKED head and to a MODIFY's write
phase. -/
def State.urgentCandidate (s : State) (i : StationId) : Option Candidate :=
  match (s.station i).queue.head? with
  | some (.request t) =>
    match s.request t with
    | some r =>
      match r.state with
      | .parked part =>
        if r.abandonPending then some (.abandon t)
        else if part.collect = .expired then some (.collect t)
        else none
      | .queued => if s.headInWritePhase i then some (.modifyWrite t) else none
      | .active | .waiting _ | .done _ | .delivered _ => none
    | none => none
  | some (.posted _) => none
  | none => none

/-- Candidate 6 of R92: the next segment or phase of the head, when the broadcast barrier does not bar it (R113). -/
def State.segmentCandidate (s : State) (i : StationId) : Option Candidate :=
  match (s.station i).queue.head? with
  | some (.request t) =>
    match s.request t with
    | some r =>
      if r.state = .queued ∧ !s.headInWritePhase i ∧ !s.barred r.order then some (.requestSegment t) else none
    | none => none
  | some (.posted p) =>
    match s.postedEntry p with
    | some e =>
      if (e.state = .queued ∨ e.state = .opened) ∧ !s.barred e.order then some (.postedSegment p) else none
    | none => none
  | none => none

/-- Whether candidate 5 of R92, the POLL, is available (R165, R93). -/
def State.pollCandidate (s : State) (i : StationId) : Bool :=
  (s.station i).attentionCapable && (s.station i).pollDue && !s.headInWritePhase i

/-- The candidate a grant for a station takes: the first available in the order of R92. -/
def State.candidate (s : State) (i : StationId) : Option Candidate :=
  match (s.station i).state with
  | .probing => some .identify
  | .online =>
    match s.urgentCandidate i with
    | some c => some c
    | none => if s.pollCandidate i then some .poll else s.segmentCandidate i
  | .absent | .lost => none

/-! ### Eligibility and the choice (R91, R95, R96) -/

/-- Whether a station is eligible (R91): not held, and with a candidate. -/
def State.eligible (s : State) (i : StationId) : Bool := !(s.station i).held && (s.candidate i).isSome

/-- The head of the broadcast queue when the barrier allows it: the candidate of pseudo-station 15 (R91, R112). -/
def State.broadcastCandidate (s : State) : Option PostedIndex :=
  match s.broadcastQueue with
  | [] => none
  | p :: _ =>
    match s.postedEntry p with
    | some e => if s.broadcastAllowed e.order then some p else none
    | none => none

/-- Whether the member at an address, 1..15, is eligible in the HIGH tier (R95). -/
def State.eligibleHigh (s : State) (n : Nat) : Bool :=
  match stationAt n with
  | some i => !s.settings.isLow i && s.eligible i
  | none => n = 15 && s.broadcastCandidate.isSome

/-- Whether the member at an address is eligible in the LOW tier (R95). -/
def State.eligibleLow (s : State) (n : Nat) : Bool :=
  match stationAt n with
  | some i => s.settings.isLow i && s.eligible i
  | none => false

/-- The addresses 1..size in the order a search after `position` visits them, wrapping round (R95). -/
def searchOrder (size position : Nat) : List Nat :=
  (List.range size).map fun k => (position + k) % size + 1

/-- The HIGH member a grant would go to (R95). -/
def State.highChoice (s : State) : Option Nat := (searchOrder 15 s.highPosition).find? s.eligibleHigh

/-- The LOW member a grant would go to (R95). -/
def State.lowChoice (s : State) : Option Nat := (searchOrder 14 s.lowPosition).find? s.eligibleLow

/-! ### Starting an exchange (R75, R78, R94) -/

/-- Begins an exchange: attempt 1, the attempt limit 1 + the retry limit then configured, waiting for the pair. -/
def beginExchange (kind : ExchangeKind) (owner : Owner) (destination : Target) (frame : List Word) (s : State) : State :=
  { s with
    exchange :=
      some
        { kind := kind
          owner := owner
          destination := destination
          frame := frame
          attempt := 1
          limit := s.settings.retryLimit.toNat + 1
          phase := .pairWait s.settings.replyTicks } }

/-- The flags of a READ or WRITE frame to a station: its toggle, NOPARK when `nopark` or when the station may not park,
and INCR (R58). -/
def Station.flags (st : Station) (nopark incr : Bool) : FrameFlags where
  toggle := st.toggle
  nopark := nopark || !st.parkCapable
  incr := incr

/-- The length of a request entry's next segment (R17). -/
def Request.segmentLength (r : Request) (st : Station) : Nat := min st.maxBurst (r.count - r.wordsDone)

/-- The write value of a MODIFY (R120). -/
def ModifyPart.writeValue (m : ModifyPart) : Word :=
  (m.oldValue.getD 0#16 &&& ~~~m.writeMask) ||| (m.newValue &&& m.writeMask)

/-- The exchange kind and frame of a request entry's next segment or phase (R17, R58, R78, R117, R121). -/
def Request.nextFrame (r : Request) (st : Station) : ExchangeKind × List Word :=
  let n := stationAddress r.station
  let incr : Bool := r.mode = .increment
  let address := r.mode.advance r.start r.wordsDone
  match r.kind with
  | .read => (.readSegment, readFrame .readSegment n (st.flags false incr) address (r.segmentLength st))
  | .confirmedWrite =>
    (.writeSegment,
      writeFrame .writeSegment n (st.flags false incr) address ((r.data.drop r.wordsDone).take (r.segmentLength st)))
  | .modify m =>
    match m.phase with
    | .read => (.modifyRead, readFrame .modifyRead n (st.flags true true) r.start 1)
    | .write => (.modifyWrite, writeFrame .modifyWrite n (st.flags true true) r.start [m.writeValue])

/-- Grants the next segment or phase of a request entry: it becomes ACTIVE (R94). -/
def startRequest (t : Tag) (s : State) : State :=
  match s.request t with
  | none => s
  | some r =>
    let f := r.nextFrame (s.station r.station)
    beginExchange f.1 (.request t) (.station r.station) f.2 (s.putRequest t (some { r with state := .active }))

/-- Grants the next segment of a posted entry: it becomes ACTIVE, closed if it was OPEN (R94, R102). -/
def startPosted (i : StationId) (p : PostedIndex) (s : State) : State :=
  match s.postedEntry p with
  | none => s
  | some e =>
    let st := s.station i
    let data := (e.data.drop e.wordsDone).take (min st.maxBurst (e.count - e.wordsDone))
    let frame :=
      writeFrame .writeSegment (stationAddress i) (st.flags true (e.mode = .increment)) e.nextAddress data
    beginExchange .writeSegment (.posted p) (.station i) frame (s.putPosted p (some { e with state := .active }))

/-- Starts the exchange of a station's candidate with the effects of R94 (R90, R130, R165). -/
def startCandidate (i : StationId) (c : Candidate) (s : State) : State :=
  let n := stationAddress i
  match c with
  | .identify => beginExchange .identify (.station i) (.station i) (bareFrame .identify n) s
  | .abandon t => beginExchange .abandon (.request t) (.station i) (bareFrame .abandon n) s
  | .collect t =>
    beginExchange .collect (.request t) (.station i) (bareFrame .collect n)
      (s.updateRequest t fun r =>
        match r.state with
        | .parked part => { r with state := .parked { part with collect := .stopped } }
        | .queued | .active | .waiting _ | .done _ | .delivered _ => r)
  | .poll =>
    beginExchange .poll (.station i) (.station i) (pollFrame n (s.station i).lastSequence)
      (s.updateStation i fun st => { st with pollDue := false, pollTimer := none })
  | .modifyWrite t | .requestSegment t => startRequest t s
  | .postedSegment p => startPosted i p s

/-- Starts the BROADCAST of the head of the broadcast queue: it becomes ACTIVE (R111). -/
def startBroadcast (p : PostedIndex) (s : State) : State :=
  match s.postedEntry p with
  | none => s
  | some e =>
    let flags := { noFlags with incr := e.mode = .increment }
    beginExchange .broadcast (.posted p) .broadcast (writeFrame .broadcast 15 flags e.start e.data)
      (s.putPosted p (some { e with state := .active }))

/-- Starts the exchange of the member at an address: a station's candidate, or the broadcast (R90, R91). -/
def startMember (n : Nat) (s : State) : State :=
  match stationAt n with
  | some i =>
    match s.candidate i with
    | some c => startCandidate i c s
    | none => s
  | none =>
    match s.broadcastCandidate with
    | some p => startBroadcast p s
    | none => s

/-- A grant to a HIGH member: the HIGH position becomes its address (R94, R96). -/
def grantHigh (n count : Nat) (s : State) : State :=
  startMember n { s with highPosition := n, starvation := count }

/-- A grant to a LOW member: the LOW position becomes its address and the starvation count 0 (R94, R96). -/
def grantLow (n : Nat) (s : State) : State :=
  startMember n { s with lowPosition := n, starvation := 0 }

/-- The conditions of a grant other than an eligible member (R90): the engine IDLE, the link UP, HOLD not asserted. -/
def State.mayGrant (s : State) : Bool := s.exchange.isNone && s.link = .up && !s.holdInput

/-- GRANT (R90, R95, R96). -/
def schedule (s : State) : State :=
  if s.mayGrant then
    match s.highChoice, s.lowChoice with
    | some h, some l => if s.starvation < Config.starvationLimit then grantHigh h (s.starvation + 1) s else grantLow l s
    | some h, none => grantHigh h 0 s
    | none, some l => grantLow l s
    | none, none => s
  else s

/-! ### The enumeration pass (R45) -/

/-- The pass starts the IDENTIFY of its next station when the engine is IDLE and HOLD is not asserted (R45, R97). -/
def startIdentify (s : State) : State :=
  if s.link = .enumerating ∧ s.exchange = none ∧ !s.holdInput then
    match s.pass with
    | [] => s
    | i :: _ =>
      beginExchange .identify (.station i) (.station i) (bareFrame .identify (stationAddress i))
        (s.updateStation i fun st => { st with state := .probing })
  else s

/-- GRANT (R90). -/
def execGrant (s : State) : Host.Outcome State Fault Refusal := .next (schedule s)

/-- ENUMERATION_IDENTIFY_START (R45). -/
def execEnumerationIdentifyStart (s : State) : Host.Outcome State Fault Refusal := .next (startIdentify s)

end Sys2Proof.Machine
end

