-- ==== Sys2Proof/Machine/Engine.lean ====
section
/-! DEFINITION. The exchange engine (Chapter 4) and what each outcome does to its owner (Chapters 1, 5, 6, 7, 9). -/

namespace Sys2Proof.Machine

/-! ### Segments (R18, R19, R87) -/

/-- A segment of a READ or CONFIRMED WRITE is done (R18, R133): a READ's words are stored at positions words done onward,
words done advances and the busy count returns to 0. The request then completes, is cancelled, or waits for its next
segment. -/
def segmentDone (t : Tag) (length : Nat) (words : List Word) (s : State) : State :=
  match s.request t with
  | none => s
  | some r =>
    let data := match r.kind with
      | .read => r.data.take r.wordsDone ++ words
      | .confirmedWrite | .modify _ => r.data
    let r1 := { r with data := data, wordsDone := r.wordsDone + length, busyCount := 0 }
    if r.wordsDone + length = r.count then completeRequest t .success (s.putRequest t (some r1))
    else if r.cancelPending then completeRequest t .cancelled (s.putRequest t (some r1))
    else s.putRequest t (some { r1 with state := .queued, abandonPending := false })

/-- A NAK REJECT, a NAK FAULT or the busy limit ends a request in its own exchange: a MODIFY records its failed phase
(R19, R87, R124, R125). -/
def refuseRequest (t : Tag) (status : Status) (s : State) : State :=
  completeRequest t status (s.updateRequest t (Request.mapModify ModifyPart.refused))

/-- Whether a busy count has reached the busy limit (R87): a limit of 0 is no limit. -/
def Settings.busyLimitReached (g : Settings) (count : Nat) : Bool :=
  g.busyLimit != 0 && g.busyLimit.toNat ≤ count

/-- NAK BUSY to a segment or phase of a request entry (R87, R123): the busy count rises, and the entry completes
BUSY-LIMIT, completes CANCELLED, or becomes WAITING with its backoff started. -/
def requestBusy (t : Tag) (s : State) : State :=
  match s.request t with
  | none => s
  | some r =>
    let count := min Config.maxBusy (r.busyCount + 1)
    let s1 := s.putRequest t (some { r with busyCount := count })
    if s.settings.busyLimitReached count then refuseRequest t .busyLimit s1
    else if r.cancelPending then completeRequest t .cancelled s1
    else s1.putRequest t (some { r with busyCount := count, state := .waiting s.settings.backoffTicks })

/-- A NAK to a segment or phase of a request entry (R19, R87). -/
def requestNak (t : Tag) (reason : NakReason) (s : State) : State :=
  match reason with
  | .busy => requestBusy t s
  | .reject => refuseRequest t .rejected s
  | .fault => refuseRequest t .stationFault s

/-! ### Parked operations (Chapter 7) -/

/-- The collect timer started with the interval then configured (R130). -/
def Settings.collectStart (g : Settings) : CollectTimer := .running g.collectTicks

/-- A valid PARKED reply to a segment (R128): the entry enters PARKED with both timers started; cancel pending sets abandon
pending as well, and the collect timer is then not started (R27, R130). -/
def enterParked (t : Tag) (segment : Segment) (s : State) : State :=
  s.updateRequest t fun r =>
    let abandon := r.abandonPending || r.cancelPending
    { r with
      abandonPending := abandon
      state := .parked
        { segment := segment
          park := some s.settings.parkTicks
          collect := if abandon then .stopped else s.settings.collectStart } }

/-- A COLLECT answered PARKED or NAK BUSY (R134): the collect timer starts again unless abandon pending is set. -/
def collectAgain (t : Tag) (s : State) : State :=
  s.updateRequest t fun r =>
    match r.state with
    | .parked part =>
      if r.abandonPending then r
      else { r with state := .parked { part with collect := s.settings.collectStart } }
    | .queued | .active | .waiting _ | .done _ | .delivered _ => r

/-- The parked segment of a request entry. -/
def State.parkedSegment (s : State) (t : Tag) : Option Segment :=
  match s.request t with
  | some r => match r.state with
    | .parked part => some part.segment
    | .queued | .active | .waiting _ | .done _ | .delivered _ => none
  | none => none

/-- An ABANDON answered ACK (R136): CANCELLED if cancel pending is set, PARK-TIMEOUT otherwise. -/
def abandonAcked (t : Tag) (s : State) : State :=
  match s.request t with
  | none => s
  | some r => completeRequest t (if r.cancelPending then .cancelled else .parkTimeout) s

/-! ### MODIFY (Chapter 6) -/

/-- Whether a relation holds between the masked old value and the masked operand (R119). -/
def Relation.holds (relation : Relation) (x y : Word) : Bool :=
  match relation with
  | .eq => x = y
  | .ne => x ≠ y
  | .ltu => x.ult y
  | .geu => !x.ult y
  | .lts => x.slt y
  | .ges => !x.slt y

/-- The evaluation of a MODIFY on an old value (R119). -/
def ModifyPart.evaluate (m : ModifyPart) (old : Word) : Bool :=
  m.relation.holds (old &&& m.compareMask) (m.operand &&& m.compareMask)

/-- The read phase's DATA (R118, R119, R126): the old value is taken, the busy count returns to 0, and the relation
decides. -/
def modifyReadData (t : Tag) (old : Word) (s : State) : State :=
  match s.request t with
  | none => s
  | some r =>
    match r.kind with
    | .modify m =>
      let m1 := { m with oldValue := some old }
      let r1 := { r with kind := .modify m1, data := [old], busyCount := 0 }
      if m.evaluate old then
        if r.cancelPending then completeRequest t .cancelled (s.putRequest t (some r1))
        else s.putRequest t (some { r1 with kind := .modify { m1 with phase := .write }, state := .queued })
      else completeRequest t .success (s.putRequest t (some { r1 with wordsDone := 1 }))
    | .read | .confirmedWrite => s

/-- The write phase's ACK (R121): written YES, words done 1, SUCCESS. -/
def modifyWriteAck (t : Tag) (s : State) : State :=
  completeRequest t .success
    (s.updateRequest t fun r =>
      { r.mapModify (fun m => { m with written := .yes }) with busyCount := 0, wordsDone := 1 })

/-! ### Posted writes (R103, R104, R87) -/

/-- NAK BUSY to a segment of a posted entry (R104). -/
def postedBusy (p : PostedIndex) (s : State) : State :=
  match s.postedEntry p with
  | none => s
  | some e =>
    let count := min Config.maxBusy (e.busyCount + 1)
    if s.settings.busyLimitReached count then freePosted p (some .busyLimit) s
    else if e.flushPending then freePosted p (some .cancelled) s
    else s.putPosted p (some { e with busyCount := count, state := .waiting s.settings.backoffTicks })

/-- ACK to a segment of a posted entry (R103, R106). -/
def postedAck (p : PostedIndex) (length : Nat) (s : State) : State :=
  match s.postedEntry p with
  | none => s
  | some e =>
    let e1 := { e with wordsDone := e.wordsDone + length, busyCount := 0 }
    let s1 := s.putPosted p (some e1)
    if e1.wordsDone = e.count then freePosted p none s1
    else if e.flushPending then freePosted p (some .cancelled) s1
    else s.putPosted p (some { e1 with state := .queued })

/-- A reply to a WRITE SEGMENT of a posted entry (R103, R104). -/
def postedReply (p : PostedIndex) (length : Nat) (reply : Reply) (s : State) : State :=
  match reply with
  | .ack => postedAck p length s
  | .nak .busy => postedBusy p s
  | .nak .reject => freePosted p (some .rejected) s
  | .nak .fault => freePosted p (some .stationFault) s
  | .data _ | .parked | .attn _ _ | .quiet | .identity _ => s

/-! ### Replies to a request entry (R80) -/

/-- The address and count words of a READ or WRITE frame. -/
def Exchange.address (x : Exchange) : Word := x.frame.getD 1 0#16
def Exchange.count (x : Exchange) : Nat := (x.frame.getD 2 0#16).toNat

/-- Whether a reply leaves its request entry PARKED: PARKED to a segment, PARKED or NAK BUSY to a COLLECT (R128, R134,
R152). -/
def leavesParked (kind : ExchangeKind) (reply : Reply) : Bool :=
  match kind, reply with
  | .readSegment, .parked | .writeSegment, .parked | .collect, .parked | .collect, .nak .busy => true
  | _, _ => false

/-- A reply to a COLLECT (R133 to R135). -/
def collectReply (t : Tag) (reply : Reply) (s : State) : State :=
  match reply with
  | .data words =>
    match s.parkedSegment t with
    | some g => segmentDone t g.length words s
    | none => s
  | .ack =>
    match s.parkedSegment t with
    | some g => segmentDone t g.length [] s
    | none => s
  | .parked | .nak .busy => collectAgain t s
  | .nak .reject => completeRequest t .rejected s
  | .nak .fault => completeRequest t .stationFault s
  | .attn _ _ | .quiet | .identity _ => s

/-- A reply to a READ SEGMENT or WRITE SEGMENT of a request entry (R18, R19, R87, R128). -/
def segmentReply (x : Exchange) (t : Tag) (write : Bool) (reply : Reply) (s : State) : State :=
  match reply with
  | .data words => segmentDone t x.count words s
  | .ack => segmentDone t x.count [] s
  | .nak reason => requestNak t reason s
  | .parked => enterParked t { write := write, address := x.address, length := x.count } s
  | .attn _ _ | .quiet | .identity _ => s

/-- A reply to a request entry, by exchange kind (R80). -/
def requestReply (x : Exchange) (t : Tag) (reply : Reply) (s : State) : State :=
  match x.kind with
  | .readSegment => segmentReply x t false reply s
  | .writeSegment => segmentReply x t true reply s
  | .modifyRead =>
    match reply with
    | .data words => modifyReadData t (words.headD 0#16) s
    | .nak reason => requestNak t reason s
    | .ack | .parked | .attn _ _ | .quiet | .identity _ => s
  | .modifyWrite =>
    match reply with
    | .ack => modifyWriteAck t s
    | .nak reason => requestNak t reason s
    | .data _ | .parked | .attn _ _ | .quiet | .identity _ => s
  | .collect => collectReply t reply s
  | .abandon => abandonAcked t s
  | .poll | .identify | .broadcast => s

/-- A reply reaches the request entry that owns the exchange, which is unfinished while the exchange is in flight (R84): a
stale window entry that the reply does not leave PARKED is freed instead (R152). -/
def ownerReply (x : Exchange) (t : Tag) (reply : Reply) (s : State) : State :=
  match s.request t with
  | none => s
  | some r =>
    if r.unfinished then
      if r.stale && !leavesParked x.kind reply then freeRequest t s else requestReply x t reply s
    else s

/-- A reply reaches the station record that owns a POLL or IDENTIFY (R80). -/
def stationReply (i : StationId) (reply : Reply) (s : State) : State :=
  match reply with
  | .identity f => enterOnline i f s
  | .attn items more => pollAttn i items more s
  | .quiet => pollQuiet i s
  | .data _ | .ack | .nak _ | .parked => s

/-- Whether an exchange kind's frame is toggled (R81). -/
def ExchangeKind.toggled : ExchangeKind → Bool
  | .readSegment | .writeSegment | .modifyRead | .modifyWrite => true
  | .collect | .abandon | .poll | .identify | .broadcast => false

/-- The station's toggle flips on a valid reply to a toggled frame (R81). -/
def flipToggle (x : Exchange) (s : State) : State :=
  match x.destination with
  | .station i =>
    if x.kind.toggled then s.updateStation i fun st => { st with toggle := !st.toggle } else s
  | .broadcast => s

/-- The outcome REPLY of an exchange (R80): the toggle flips, then the owner takes the reply. -/
def applyReply (x : Exchange) (reply : Reply) (s : State) : State :=
  let s1 := flipToggle x s
  match x.owner with
  | .request t => ownerReply x t reply s1
  | .posted p => postedReply p x.count reply s1
  | .station i => stationReply i reply s1

/-- The outcome FAILED of an exchange (R80): its station makes the LOST transition (R38). -/
def applyFailed (x : Exchange) (s : State) : State :=
  match x.destination with
  | .station i => lostTransition i x.owner s
  | .broadcast => s

/-- The outcome SENT of a BROADCAST (R111): its words done becomes its count and it is freed without a record. -/
def applySent (x : Exchange) (s : State) : State :=
  match x.owner with
  | .posted p => freePosted p none (s.updatePosted p fun e => { e with wordsDone := e.count })
  | .request _ | .station _ => s

/-! ### The end of an exchange -/

/-- The end of a pass IDENTIFY moves the pass to its next station, or makes the link UP and latches LINK (R45). -/
def advancePass (x : Exchange) (s : State) : State :=
  if x.kind = .identify ∧ s.link = .enumerating then
    match s.pass.tail with
    | [] => { s with pass := [], link := .up }.latchLink
    | i :: rest => { s with pass := i :: rest }
  else s

/-- An exchange ends (R80): the engine becomes IDLE, the outcome is applied, and in the same happening the held access is
settled (R149, R157), the pass moves on (R45) and the drain ends (R47). An access stretched behind a hold that ends here is
taken in a happening of its own (R183). -/
def endExchange (x : Exchange) (outcome : State → State) (s : State) : State :=
  drainIfIdle (advancePass x (settleHeld (outcome { s with exchange := none })))

/-- An attempt without a valid reply (R79, R80): the next attempt begins, or the exchange ends FAILED. -/
def attemptFailed (x : Exchange) (s : State) : State :=
  if x.attempt < x.limit then
    { s with exchange := some { x with attempt := x.attempt + 1, phase := .pairWait s.settings.replyTicks } }
  else endExchange x (applyFailed x) s

/-- What R72 compares a reply to this exchange with (R77): the parked segment for a COLLECT, the frame sent for every
other kind. -/
def State.expected (s : State) (x : Exchange) : Expected :=
  let acceptedThrough := x.address.extractLsb' 0 8
  match x.kind, x.owner with
  | .collect, .request t =>
    match s.parkedSegment t with
    | some g => { address := g.address, count := g.length, acceptedThrough := acceptedThrough }
    | none => { address := x.address, count := x.count, acceptedThrough := acceptedThrough }
  | _, _ => { address := x.address, count := x.count, acceptedThrough := acceptedThrough }

/-- Whether the frame of an exchange was sent with NOPARK clear (R77). -/
def Exchange.parkable (x : Exchange) : Bool := !(x.frame.headD 0#16).getLsbD 2

/-- Whether the parked segment a COLLECT asks for is a WRITE (R77). -/
def State.parkedWrite (s : State) (x : Exchange) : Bool :=
  match x.owner with
  | .request t => match s.parkedSegment t with
    | some g => g.write
    | none => false
  | .posted _ | .station _ => false

/-- The judgement of a reception on the exchange in flight (R72). -/
def State.judgement (s : State) (x : Exchange) (r : Reception) : Option Reply :=
  judge x.kind x.parkable (s.parkedWrite x) x.destination.address (s.expected x) r

/-! ### The events on the pair -/

/-- The frame begins, at the bit rate then configured (R52, R53). -/
def beginFrame (s : State) : State :=
  match s.exchange with
  | some x => match x.phase with
    | .pairWait _ => { s with exchange := some { x with phase := .sending s.settings.bitRate } }
    | .sending _ | .gap _ | .window _ | .receiving _ => s
  | none => s

/-- The last bit of a non-broadcast frame is sent: the reply window opens with the time then configured (R71, R76). -/
def frameSent (s : State) : State :=
  match s.exchange with
  | some x => match x.phase with
    | .sending _ =>
      if x.kind = .broadcast then s
      else { s with exchange := some { x with phase := .window s.settings.replyTicks } }
    | .pairWait _ | .gap _ | .window _ | .receiving _ => s
  | none => s

/-- The last bit of a BROADCAST frame is sent: the gap begins with the reply window time then configured (R83). -/
def broadcastFrameSent (s : State) : State :=
  match s.exchange with
  | some x => match x.phase with
    | .sending _ =>
      if x.kind = .broadcast then { s with exchange := some { x with phase := .gap s.settings.replyTicks } }
      else s
    | .pairWait _ | .gap _ | .window _ | .receiving _ => s
  | none => s

/-- The first transition while the reply window is open begins a reception at the bit rate then configured (R52, R71). -/
def receptionBegin (s : State) : State :=
  match s.exchange with
  | some x => match x.phase with
    | .window _ => { s with exchange := some { x with phase := .receiving s.settings.bitRate } }
    | .pairWait _ | .sending _ | .gap _ | .receiving _ => s
  | none => s

/-- A reception ends: its attempt is valid or bad (R72, R79, R80). -/
def receptionEnd (r : Reception) (s : State) : State :=
  match s.exchange with
  | some x => match x.phase with
    | .receiving _ =>
      match s.judgement x r with
      | some reply => endExchange x (applyReply x reply) s
      | none => attemptFailed x s
    | .pairWait _ | .sending _ | .gap _ | .window _ => s
  | none => s

/-- A reception has run past 20 words' time: its attempt is bad (R72). -/
def receptionOverrun (s : State) : State :=
  match s.exchange with
  | some x => match x.phase with
    | .receiving _ => attemptFailed x s
    | .pairWait _ | .sending _ | .gap _ | .window _ => s
  | none => s

/-- The reply window closes before a reception begins: its attempt is silent (R71). -/
def replyWindowClose (s : State) : State :=
  match s.exchange with
  | some x => match x.phase with
    | .window _ => attemptFailed x s
    | .pairWait _ | .sending _ | .gap _ | .receiving _ => s
  | none => s

/-- The gap after a BROADCAST ends: the exchange ends with outcome SENT (R83). -/
def broadcastGapEnd (s : State) : State :=
  match s.exchange with
  | some x => match x.phase with
    | .gap _ => endExchange x (applySent x) s
    | .pairWait _ | .sending _ | .window _ | .receiving _ => s
  | none => s

/-! ### Meanings -/

/-- FRAME_BEGIN (R53). -/
def execFrameBegin (s : State) : Host.Outcome State Fault Refusal := .next (beginFrame s)

/-- PAIR_ACTIVE_TIMEOUT (R53, R73): the frame begins over whatever is on the pair. -/
def execPairActiveTimeout (s : State) : Host.Outcome State Fault Refusal := .next (beginFrame s)

/-- FRAME_SENT (R76). -/
def execFrameSent (s : State) : Host.Outcome State Fault Refusal := .next (frameSent s)

/-- BROADCAST_FRAME_SENT (R83). -/
def execBroadcastFrameSent (s : State) : Host.Outcome State Fault Refusal := .next (broadcastFrameSent s)

/-- RECEPTION_BEGIN (R71). -/
def execReceptionBegin (s : State) : Host.Outcome State Fault Refusal := .next (receptionBegin s)

/-- RECEPTION_END (R72). -/
def execReceptionEnd (r : Reception) (s : State) : Host.Outcome State Fault Refusal := .next (receptionEnd r s)

/-- RECEPTION_OVERRUN (R72). -/
def execReceptionOverrun (s : State) : Host.Outcome State Fault Refusal := .next (receptionOverrun s)

/-- REPLY_WINDOW_CLOSE (R71). -/
def execReplyWindowClose (s : State) : Host.Outcome State Fault Refusal := .next (replyWindowClose s)

/-- BROADCAST_GAP_END (R83). -/
def execBroadcastGapEnd (s : State) : Host.Outcome State Fault Refusal := .next (broadcastGapEnd s)

/-- DISCARDED_FRAME (R73): the frame changes no state, whatever it holds. -/
def execDiscardedFrame (_r : Reception) (s : State) : Host.Outcome State Fault Refusal := .next s

end Sys2Proof.Machine
end

