-- ==== Sys2Proof/Machine/Timers.lean ====
section
/-! DEFINITION. Timer expiries, what else ends a hold, and the tick of the 1 µs timebase. -/

namespace Sys2Proof.Machine

/-! ### Expiries of entry and station timers -/

/-- The busy backoff of a WAITING request entry expires: the entry becomes QUEUED (R88). -/
def Request.backoffExpired (r : Request) : Request :=
  match r.state with
  | .waiting _ => { r with state := .queued }
  | .queued | .active | .parked _ | .done _ | .delivered _ => r

/-- The busy backoff of a WAITING posted entry expires: the entry becomes QUEUED (R88, R104). -/
def Posted.backoffExpired (e : Posted) : Posted :=
  match e.state with
  | .waiting _ => { e with state := .queued }
  | .opened | .queued | .active => e

/-- The collect timer of a PARKED entry runs out and becomes expired (R130). -/
def Request.collectExpired (r : Request) : Request :=
  match r.state with
  | .parked part =>
    match part.collect with
    | .running _ => { r with state := .parked { part with collect := .expired } }
    | .stopped | .expired => r
  | .queued | .active | .waiting _ | .done _ | .delivered _ => r

/-- The park timer of a PARKED entry expires: abandon pending is set and the collect timer stops (R131); with abandon
pending already set nothing else changes. -/
def Request.parkExpired (r : Request) : Request :=
  match r.state with
  | .parked part =>
    match part.park with
    | some _ =>
      { r with
        abandonPending := true
        state := .parked { part with park := none, collect := .stopped } }
    | none => r
  | .queued | .active | .waiting _ | .done _ | .delivered _ => r

/-- The poll timer of a station expires: the poll due mark becomes YES and the timer stops (R163). -/
def Station.pollExpired (st : Station) : Station :=
  match st.pollTimer with
  | some _ => { st with pollTimer := none }.makePollDue
  | none => st

/-- The discard timer of a DONE window entry expires: the entry is freed and discarded-seen is set (R151). -/
def discardExpired (t : Tag) (s : State) : State :=
  match s.request t with
  | none => s
  | some r =>
    match r.origin, r.state with
    | .window w, .done _ =>
      match w.discard with
      | some _ => (freeRequest t s).setDiscarded
      | none => s
    | _, _ => s

/-- BUSY_BACKOFF_EXPIRY (R88). -/
def execBusyBackoffExpiry (entry : EntryRef) (s : State) : Host.Outcome State Fault Refusal :=
  .next
    (match entry with
    | .request t => s.updateRequest t Request.backoffExpired
    | .posted p => s.updatePosted p Posted.backoffExpired)

/-- COLLECT_TIMER_EXPIRY (R130). -/
def execCollectTimerExpiry (t : Tag) (s : State) : Host.Outcome State Fault Refusal :=
  .next (s.updateRequest t Request.collectExpired)

/-- PARK_TIMER_EXPIRY (R131). -/
def execParkTimerExpiry (t : Tag) (s : State) : Host.Outcome State Fault Refusal :=
  .next (s.updateRequest t Request.parkExpired)

/-- POLL_TIMER_EXPIRY (R163). -/
def execPollTimerExpiry (i : StationId) (s : State) : Host.Outcome State Fault Refusal :=
  .next (s.updateStation i Station.pollExpired)

/-- DISCARD_TIMER_EXPIRY (R151). -/
def execDiscardTimerExpiry (t : Tag) (s : State) : Host.Outcome State Fault Refusal := .next (discardExpired t s)

/-! ### What ends a hold -/

/-- READ_HOLD_EXPIRY (R150). -/
def execReadHoldExpiry (s : State) : Host.Outcome State Fault Refusal := .next (expireReadHold s)

/-- WRITE_HOLD_EXPIRY (R157). -/
def execWriteHoldExpiry (s : State) : Host.Outcome State Fault Refusal := .next (expireWriteHold s)

/-- HELD_READ_ANSWERED (R149). The happening that makes the entry DONE answers the read itself; this row does so wherever a
held read's entry is DONE. -/
def execHeldReadAnswered (s : State) : Host.Outcome State Fault Refusal := .next (answerHeldRead s)

/-- HELD_WRITE_SPACE (R157). The happening that frees the space accepts the write itself; this row does so wherever a
held write finds space. -/
def execHeldWriteSpace (s : State) : Host.Outcome State Fault Refusal := .next (giveHeldWriteSpace s)

/-- HELD_WRITE_STATION_LOST (R157). The happening that makes the station LOST drops the write itself; this row does so
wherever the station of a held write is not ONLINE. -/
def execHeldWriteStationLost (s : State) : Host.Outcome State Fault Refusal := .next (dropHeldWrite s)

/-- DRAIN_END (R47). The happening that ends the exchange in flight, or LINK-STOP with none in flight, ends the drain
itself; this row does so wherever the link is DRAINING with the engine IDLE. -/
def execDrainEnd (s : State) : Host.Outcome State Fault Refusal := .next (drainIfIdle s)

/-! ### The timebase (R186) -/

/-- One tick of a running timer. -/
def tickTimer (timer : Option Nat) : Option Nat := timer.map (· - 1)

/-- One tick of a collect timer. -/
def CollectTimer.tick : CollectTimer → CollectTimer
  | .running n => .running (n - 1)
  | .stopped => .stopped
  | .expired => .expired

/-- One tick of a request entry's timers. -/
def Request.tick (r : Request) : Request :=
  { r with
    state := match r.state with
      | .waiting n => .waiting (n - 1)
      | .parked part => .parked { part with park := tickTimer part.park, collect := part.collect.tick }
      | .queued => .queued
      | .active => .active
      | .done status => .done status
      | .delivered status => .delivered status
    origin := match r.origin with
      | .window w => .window { w with discard := tickTimer w.discard }
      | .port => .port }

/-- One tick of a posted entry's busy backoff. -/
def Posted.tick (e : Posted) : Posted :=
  { e with
    state := match e.state with
      | .waiting n => .waiting (n - 1)
      | .opened => .opened
      | .queued => .queued
      | .active => .active }

/-- One tick of a station's poll timer. -/
def Station.tick (st : Station) : Station := { st with pollTimer := tickTimer st.pollTimer }

/-- One tick of the exchange engine's timer. -/
def Exchange.tick (x : Exchange) : Exchange :=
  { x with
    phase := match x.phase with
      | .pairWait n => .pairWait (n - 1)
      | .gap n => .gap (n - 1)
      | .window n => .window (n - 1)
      | .sending rate => .sending rate
      | .receiving rate => .receiving rate }

/-- One tick of the hold timer. -/
def HeldAccess.tick : HeldAccess → HeldAccess
  | .read t address n => .read t address (n - 1)
  | .write address value n => .write address value (n - 1)

/-- The expiry of the hold timer that is due at this tick. -/
def State.dueHold (s : State) : List Instr :=
  match s.access with
  | some (.read _ _ 0) => [.readHoldExpiry]
  | some (.write _ _ 0) => [.writeHoldExpiry]
  | _ => []

/-- The expiry of the engine's timer that is due at this tick. -/
def State.dueEngine (s : State) : List Instr :=
  match s.exchange with
  | some x => match x.phase with
    | .pairWait 0 => [.pairActiveTimeout]
    | .window 0 => [.replyWindowClose]
    | .gap 0 => [.broadcastGapEnd]
    | _ => []
  | none => []

/-- The expiries of a request entry's timers that are due at this tick. -/
def State.dueRequest (s : State) (t : Tag) : List Instr :=
  match s.request t with
  | none => []
  | some r =>
    (match r.state with
      | .waiting 0 => [.busyBackoffExpiry (.request t)]
      | .parked part =>
        (if part.collect = .running 0 then [.collectTimerExpiry t] else []) ++
          (if part.park = some 0 then [.parkTimerExpiry t] else [])
      | _ => []) ++
    match r.origin with
    | .window w => if w.discard = some 0 then [.discardTimerExpiry t] else []
    | .port => []

/-- The expiry of a posted entry's busy backoff that is due at this tick. -/
def State.duePosted (s : State) (p : PostedIndex) : List Instr :=
  match s.postedEntry p with
  | some e => if e.state = .waiting 0 then [.busyBackoffExpiry (.posted p)] else []
  | none => []

/-- The expiry of a station's poll timer that is due at this tick. -/
def State.dueStation (s : State) (i : StationId) : List Instr :=
  if (s.station i).pollTimer = some 0 then [.pollTimerExpiry i] else []

/-- The expiries that are due at this tick: a timer started with n ticks expires at the (n + 1)th tick after its start, so
at least n µs and less than one more have passed (R71, R88, R129, R163). -/
def State.dueExpiries (s : State) : List Instr :=
  s.dueHold ++ s.dueEngine ++ (List.finRange 16).flatMap s.dueRequest ++ (List.finRange 16).flatMap s.duePosted ++
    (List.finRange 14).flatMap s.dueStation

/-- One tick of the 1 µs timebase, which paces every timer (R186): each running timer counts down, and the expiries that are
due are queued as commands. -/
def tick (s : State) : State :=
  { s with
    pending := s.pending ++ s.dueExpiries
    requests := tabulate fun t => (s.request t).map Request.tick
    posted := tabulate fun p => (s.postedEntry p).map Posted.tick
    stations := tabulate fun i => (s.station i).tick
    exchange := s.exchange.map Exchange.tick
    access := s.access.map HeldAccess.tick }

/-- What happens when no command waits: a stretched access that can be taken is taken (R183); otherwise the timebase ticks
(R186). DESIGN CHOICE (assumption log 1 and 5): neither has a row in the table, and no time passes before an access that
can be taken is taken. -/
def whenIdle (s : State) : State := if s.takesWaiting then takeWaiting s else tick s

end Sys2Proof.Machine
end

