-- ==== Sys2Proof/Machine/HostMeanings.lean ====
section
/-! DEFINITION. The meanings of the rows that are host accesses (rows 1 to 27 of the table) and of the rows that are pin
changes. Each host access goes through the port (R183). -/

namespace Sys2Proof.Machine

/-- The access that writes a command's code to COMMAND. -/
def commandAccess (c : HostCommand) : HostAccess := .write 0x03#6 ((commandCode c).zeroExtend 16)

/-- A write of a command's code to COMMAND, at the port (R187). -/
def hostCommand (c : HostCommand) (s : State) : State := onPort (commandAccess c) (runCommand c) s

/-! ### Commands -/

/-- SUBMIT (R9). -/
def execSubmit (s : State) : Host.Outcome State Fault Refusal := .next (hostCommand .submit s)

/-- STAGE_CLEAR (R8). -/
def execStageClear (s : State) : Host.Outcome State Fault Refusal := .next (hostCommand .stageClear s)

/-- CANCEL (R26 to R28). -/
def execCancel (s : State) : Host.Outcome State Fault Refusal := .next (hostCommand .cancel s)

/-- NEXT_COMPLETION (R22). -/
def execNextCompletion (s : State) : Host.Outcome State Fault Refusal := .next (hostCommand .nextCompletion s)

/-- RELEASE (R25). -/
def execRelease (s : State) : Host.Outcome State Fault Refusal := .next (hostCommand .release s)

/-- NEXT_ATTENTION (R171). -/
def execNextAttention (s : State) : Host.Outcome State Fault Refusal := .next (hostCommand .nextAttention s)

/-- NEXT_FAULT (R177). -/
def execNextFault (s : State) : Host.Outcome State Fault Refusal := .next (hostCommand .nextFault s)

/-- LINK_START (R44). -/
def execLinkStart (s : State) : Host.Outcome State Fault Refusal := .next (hostCommand .linkStart s)

/-- LINK_STOP (R46). -/
def execLinkStop (s : State) : Host.Outcome State Fault Refusal := .next (hostCommand .linkStop s)

/-- STATION_HOLD (R39). -/
def execStationHold (s : State) : Host.Outcome State Fault Refusal := .next (hostCommand .stationHold s)

/-- STATION_RESUME (R39). -/
def execStationResume (s : State) : Host.Outcome State Fault Refusal := .next (hostCommand .stationResume s)

/-- STATION_FLUSH (R49). -/
def execStationFlush (s : State) : Host.Outcome State Fault Refusal := .next (hostCommand .stationFlush s)

/-- STATION_REJOIN (R48). -/
def execStationRejoin (s : State) : Host.Outcome State Fault Refusal := .next (hostCommand .stationRejoin s)

/-- CONTROLLER_RESET (R51). -/
def execControllerReset (s : State) : Host.Outcome State Fault Refusal := .next (hostCommand .controllerReset s)

/-- BAD_COMMAND (R187). A code that names a command, which no BAD_COMMAND has, is that command. -/
def execBadCommand (code : Byte) (s : State) : Host.Outcome State Fault Refusal :=
  .next (onPort (.write 0x03#6 (code.zeroExtend 16)) (commandWrite code) s)

/-! ### Register accesses -/

/-- STAGE_DATA_WRITE (R7). -/
def execStageDataWrite (v : Word) (s : State) : Host.Outcome State Fault Refusal :=
  .next (onPort (.write 0x0F#6 v) (stageDataWrite v) s)

/-- DATA_PORT_READ (R24). -/
def execDataPortRead (s : State) : Host.Outcome State Fault Refusal := .next (onPort (.read 0x13#6) dataPortRead s)

/-- INTERRUPT_CAUSE_WRITE (R180). -/
def execInterruptCauseWrite (v : Word) (s : State) : Host.Outcome State Fault Refusal :=
  .next (onPort (.write 0x1D#6 v) (interruptCauseWrite v) s)

/-- INTERRUPT_ENABLE_WRITE (R181). -/
def execInterruptEnableWrite (v : Word) (s : State) : Host.Outcome State Fault Refusal :=
  .next (onPort (.write 0x1E#6 v) (interruptEnableWrite v) s)

/-- WINDOW_STATUS_WRITE (R142). -/
def execWindowStatusWrite (v : Word) (s : State) : Host.Outcome State Fault Refusal :=
  .next (onPort (.write 0x1F#6 v) (windowStatusWrite v) s)

/-- WINDOW_STATION_WRITE (R141). -/
def execWindowStationWrite (v : Word) (s : State) : Host.Outcome State Fault Refusal :=
  .next (onPort (.write 0x20#6 v) (windowStationWrite v) s)

/-- PAGE_BASE_WRITE (R141). -/
def execPageBaseWrite (v : Word) (s : State) : Host.Outcome State Fault Refusal :=
  .next (onPort (.write 0x21#6 v) (pageBaseWrite v) s)

/-- PREFETCH_WRITE (R141). -/
def execPrefetchWrite (v : Word) (s : State) : Host.Outcome State Fault Refusal :=
  .next (onPort (.write 0x22#6 v) (prefetchWrite v) s)

/-- TIMEBASE_WRITE (R186). -/
def execTimebaseWrite (v : Word) (s : State) : Host.Outcome State Fault Refusal :=
  .next (onPort (.write 0x27#6 v) (timebaseWrite v) s)

/-- REGISTER_WRITE (R184, R185, R188, R6). A location that has a row of its own is written as that row says. -/
def execRegisterWrite (location : BitVec 6) (v : Word) (s : State) : Host.Outcome State Fault Refusal :=
  .next (onPort (.write location v) (writeLocation location v) s)

/-- APERTURE_READ (R143). -/
def execApertureRead (offset : BitVec 4) (s : State) : Host.Outcome State Fault Refusal :=
  .next (onPort (.read (0b11#2 ++ offset)) (apertureRead offset) s)

/-- APERTURE_WRITE (R153). -/
def execApertureWrite (offset : BitVec 4) (v : Word) (s : State) : Host.Outcome State Fault Refusal :=
  .next (onPort (.write (0b11#2 ++ offset) v) (apertureWrite offset v) s)

/-! ### Pins (R97, R192) -/

/-- What a read held at the assertion of RESET returns: 0FFFFh (R161, R192); the lines are not driven otherwise. -/
def State.resetData (s : State) : Option Word :=
  match s.access with
  | some (.read _ _ _) => some Config.allOnes
  | some (.write _ _ _) => none
  | none => none

/-- The assertion of RESET: every register and block takes its pin reset state; what is outside the block (the queue of
commands, the HOLD level) is not reset. -/
def pinReset (s : State) : State :=
  { State.reset with
    pending := s.pending
    dataOut := s.resetData
    holdInput := s.holdInput
    resetInput := true }

/-- PIN_RESET (R192). -/
def execPinReset (s : State) : Host.Outcome State Fault Refusal := .next (pinReset s)

/-- RESET_RELEASE (R192). -/
def execResetRelease (s : State) : Host.Outcome State Fault Refusal := .next { s with resetInput := false }

/-- HOLD_ASSERTED (R97). -/
def execHoldAsserted (s : State) : Host.Outcome State Fault Refusal := .next { s with holdInput := true }

/-- HOLD_RELEASED (R97). -/
def execHoldReleased (s : State) : Host.Outcome State Fault Refusal := .next { s with holdInput := false }

end Sys2Proof.Machine
end

