-- ==== Sys2Proof/Machine/Dispatch.lean ====
section
/-! DEFINITION. One arm per row of the table: the meaning of each command. -/

namespace Sys2Proof.Machine

def exec (i : Instr) (s : State) : Host.Outcome State Fault Refusal :=
  match i with
  | .submit => Sys2Proof.Machine.execSubmit s
  | .stageClear => Sys2Proof.Machine.execStageClear s
  | .cancel => Sys2Proof.Machine.execCancel s
  | .nextCompletion => Sys2Proof.Machine.execNextCompletion s
  | .release => Sys2Proof.Machine.execRelease s
  | .nextAttention => Sys2Proof.Machine.execNextAttention s
  | .nextFault => Sys2Proof.Machine.execNextFault s
  | .linkStart => Sys2Proof.Machine.execLinkStart s
  | .linkStop => Sys2Proof.Machine.execLinkStop s
  | .stationHold => Sys2Proof.Machine.execStationHold s
  | .stationResume => Sys2Proof.Machine.execStationResume s
  | .stationFlush => Sys2Proof.Machine.execStationFlush s
  | .stationRejoin => Sys2Proof.Machine.execStationRejoin s
  | .controllerReset => Sys2Proof.Machine.execControllerReset s
  | .badCommand code => Sys2Proof.Machine.execBadCommand code s
  | .stageDataWrite value => Sys2Proof.Machine.execStageDataWrite value s
  | .dataPortRead => Sys2Proof.Machine.execDataPortRead s
  | .interruptCauseWrite value => Sys2Proof.Machine.execInterruptCauseWrite value s
  | .interruptEnableWrite value => Sys2Proof.Machine.execInterruptEnableWrite value s
  | .windowStatusWrite value => Sys2Proof.Machine.execWindowStatusWrite value s
  | .windowStationWrite value => Sys2Proof.Machine.execWindowStationWrite value s
  | .pageBaseWrite value => Sys2Proof.Machine.execPageBaseWrite value s
  | .prefetchWrite value => Sys2Proof.Machine.execPrefetchWrite value s
  | .timebaseWrite value => Sys2Proof.Machine.execTimebaseWrite value s
  | .registerWrite location value => Sys2Proof.Machine.execRegisterWrite location value s
  | .apertureRead offset => Sys2Proof.Machine.execApertureRead offset s
  | .apertureWrite offset value => Sys2Proof.Machine.execApertureWrite offset value s
  | .pinReset => Sys2Proof.Machine.execPinReset s
  | .resetRelease => Sys2Proof.Machine.execResetRelease s
  | .holdAsserted => Sys2Proof.Machine.execHoldAsserted s
  | .holdReleased => Sys2Proof.Machine.execHoldReleased s
  | .grant => Sys2Proof.Machine.execGrant s
  | .enumerationIdentifyStart => Sys2Proof.Machine.execEnumerationIdentifyStart s
  | .frameBegin => Sys2Proof.Machine.execFrameBegin s
  | .pairActiveTimeout => Sys2Proof.Machine.execPairActiveTimeout s
  | .frameSent => Sys2Proof.Machine.execFrameSent s
  | .receptionBegin => Sys2Proof.Machine.execReceptionBegin s
  | .receptionEnd received => Sys2Proof.Machine.execReceptionEnd received s
  | .receptionOverrun => Sys2Proof.Machine.execReceptionOverrun s
  | .replyWindowClose => Sys2Proof.Machine.execReplyWindowClose s
  | .broadcastGapEnd => Sys2Proof.Machine.execBroadcastGapEnd s
  | .discardedFrame received => Sys2Proof.Machine.execDiscardedFrame received s
  | .busyBackoffExpiry entry => Sys2Proof.Machine.execBusyBackoffExpiry entry s
  | .collectTimerExpiry tag => Sys2Proof.Machine.execCollectTimerExpiry tag s
  | .parkTimerExpiry tag => Sys2Proof.Machine.execParkTimerExpiry tag s
  | .pollTimerExpiry station => Sys2Proof.Machine.execPollTimerExpiry station s
  | .readHoldExpiry => Sys2Proof.Machine.execReadHoldExpiry s
  | .writeHoldExpiry => Sys2Proof.Machine.execWriteHoldExpiry s
  | .discardTimerExpiry tag => Sys2Proof.Machine.execDiscardTimerExpiry tag s
  | .heldReadAnswered => Sys2Proof.Machine.execHeldReadAnswered s
  | .heldWriteSpace => Sys2Proof.Machine.execHeldWriteSpace s
  | .heldWriteStationLost => Sys2Proof.Machine.execHeldWriteStationLost s
  | .drainEnd => Sys2Proof.Machine.execDrainEnd s
  | .broadcastFrameSent => Sys2Proof.Machine.execBroadcastFrameSent s

end Sys2Proof.Machine
end

