-- ==== Sys2Proof/Machine/Step.lean ====
section
/-! DEFINITION. One step of the 3120: the command at the front of the queue, or what happens when none waits. -/

namespace Sys2Proof.Machine

/-- Takes the command at the front of the queue and carries it out with the queue's rest; on an empty queue a stretched access
is taken (R183) or the 1 µs timebase ticks (R186). -/
def step (s : State) : Host.Outcome State Fault Refusal :=
  match s.pending with
  | [] => .next (whenIdle s)
  | c :: rest => exec c { s with pending := rest }

/-- The command a table word spells, put at the front of the queue. The table gives no row any bits, so no word spells a
command and the state is unchanged. -/
def State.withFetchWord (s : State) (nbits w : Nat) : State :=
  match decodeTableWord nbits w with
  | some c => { s with pending := c :: s.pending }
  | none => s

end Sys2Proof.Machine
end

