-- ==== Sys2Proof/Safety.lean ====
section
/-! DEFINITION. What the spec says holds of every state of the 3120: the terms in which the invariants are claimed. Each is
a decidable condition on one state. -/

namespace Sys2Proof.Machine

/-! ### Queues (R14, R110) -/

/-- A request entry stands in the queue of its station exactly while it is QUEUED, ACTIVE, WAITING or PARKED. -/
def RequestsQueued (s : State) : Prop :=
  ∀ (i : StationId) (t : Tag), EntryRef.request t ∈ (s.station i).queue ↔
    (s.request t).any (fun r => r.unfinished && r.station = i) = true

/-- A posted entry stands in the queue of its station exactly while it is not FREE. -/
def PostedQueued (s : State) : Prop :=
  ∀ (i : StationId) (p : PostedIndex), EntryRef.posted p ∈ (s.station i).queue ↔
    (s.postedEntry p).any (fun e => e.target = .station i) = true

/-- The broadcast queue holds the posted entries of station 15 that are not FREE. -/
def BroadcastsQueued (s : State) : Prop :=
  ∀ p : PostedIndex, p ∈ s.broadcastQueue ↔ (s.postedEntry p).any (fun e => e.target = .broadcast) = true

/-- No queue holds a member twice. -/
def QueuesOnce (s : State) : Prop := (∀ i : StationId, (s.station i).queue.Nodup) ∧ s.broadcastQueue.Nodup

/-- Every entry that is not finished stands exactly once in its queue, and no other entry stands in any (R14, R110). -/
def QueuesExact (s : State) : Prop :=
  RequestsQueued s ∧ PostedQueued s ∧ BroadcastsQueued s ∧ QueuesOnce s

/-- The place of a queue's member in the order of acceptance (R13); 0 for a FREE entry. -/
def State.orderOf (s : State) : EntryRef → Nat
  | .request t => match s.request t with
    | some r => r.order
    | none => 0
  | .posted p => match s.postedEntry p with
    | some e => e.order
    | none => 0

/-- Every queue stands in the order of acceptance, and the next acceptance comes after every entry (R13, R14, R110). -/
def OrdersRising (s : State) : Prop :=
  (∀ i : StationId, (s.station i).queue.Pairwise fun x y => s.orderOf x < s.orderOf y) ∧
    s.broadcastQueue.Pairwise (fun p q => s.orderOf (.posted p) < s.orderOf (.posted q)) ∧
    (∀ t : Tag, (s.request t).all (fun r => r.order < s.nextOrder) = true) ∧
    ∀ p : PostedIndex, (s.postedEntry p).all (fun e => e.order < s.nextOrder) = true

/-! ### Work in progress (R14, R15, R75, R94, R111) -/

/-- A request entry whose work is in progress: ACTIVE, WAITING or PARKED. -/
def Request.inProgress (r : Request) : Bool :=
  match r.state with
  | .active | .waiting _ | .parked _ => true
  | .queued | .done _ | .delivered _ => false

/-- A posted entry whose work is in progress: ACTIVE or WAITING. -/
def Posted.inProgress (e : Posted) : Bool :=
  match e.state with
  | .active | .waiting _ => true
  | .opened | .queued => false

/-- A queue's member whose work is in progress. -/
def State.busy (s : State) : EntryRef → Bool
  | .request t => (s.request t).any Request.inProgress
  | .posted p => (s.postedEntry p).any Posted.inProgress

/-- Only the head of a queue can be ACTIVE, WAITING or PARKED (R15, R111). -/
def OnlyHeadsBusy (s : State) : Prop :=
  (∀ i : StationId, ∀ x ∈ (s.station i).queue.tail, s.busy x = false) ∧
    ∀ p ∈ s.broadcastQueue.tail, s.busy (.posted p) = false

/-- Whether a request entry is in the state its exchange needs: PARKED for a COLLECT or ABANDON, ACTIVE for a segment or
phase, and a MODIFY for a phase (R75, R94, R117). -/
def Request.carries (r : Request) (kind : ExchangeKind) : Bool :=
  match kind with
  | .readSegment | .writeSegment => r.state = .active
  | .modifyRead | .modifyWrite =>
    r.state = .active &&
      match r.kind with
      | .modify _ => true
      | .read | .confirmedWrite => false
  | .collect | .abandon =>
    match r.state with
    | .parked _ => true
    | .queued | .active | .waiting _ | .done _ | .delivered _ => false
  | .poll | .identify | .broadcast => false

/-- Whether the owner of an exchange stands where the exchange needs it: at the head of the queue of its destination, in the
state its kind needs; a posted entry's segment is sent with NOPARK (R58, R75, R94). -/
def State.ownerStands (s : State) (x : Exchange) : Bool :=
  match x.owner, x.destination with
  | .request t, .station i =>
    (s.station i).queue.head? = some (.request t) && (s.request t).any fun r => r.carries x.kind
  | .posted p, .station i =>
    (s.station i).queue.head? = some (.posted p) && x.kind = .writeSegment && !x.parkable &&
      (s.postedEntry p).any fun e => e.state = .active
  | .posted p, .broadcast =>
    s.broadcastQueue.head? = some p && x.kind = .broadcast && (s.postedEntry p).any fun e => e.state = .active
  | .station i, .station j => i = j && (x.kind = .poll || x.kind = .identify)
  | _, _ => false

/-- Whether an exchange is in a phase of its kind: a BROADCAST awaits no reply, and only a BROADCAST has a gap (R83). -/
def Exchange.phaseOfKind (x : Exchange) : Bool :=
  match x.phase with
  | .pairWait _ | .sending _ => true
  | .gap _ => x.kind = .broadcast
  | .window _ | .receiving _ => x.kind != .broadcast

/-- The exchange in flight and its owner fit, and no entry is ACTIVE but the owner (R75, R84). -/
def OwnerStands (s : State) : Prop :=
  s.exchange.all (fun x => s.ownerStands x && x.phaseOfKind) = true ∧
    (∀ t : Tag, (s.request t).any (fun r => r.state = .active) = true →
      s.exchange.any (fun x => x.owner = .request t) = true) ∧
    ∀ p : PostedIndex, (s.postedEntry p).any (fun e => e.state = .active) = true →
      s.exchange.any (fun x => x.owner = .posted p) = true

/-! ### The Completion List (R21) -/

/-- A PORT entry that is DONE. -/
def Request.completedPort (r : Request) : Bool :=
  match r.origin, r.state with
  | .port, .done _ => true
  | _, _ => false

/-- The Completion List holds exactly the tags of the PORT entries in DONE, each once (R21). -/
def CompletionsExact (s : State) : Prop :=
  s.completionList.Nodup ∧
    ∀ t : Tag, t ∈ s.completionList ↔ (s.request t).any Request.completedPort = true

/-! ### Capacities and ranges -/

/-- The posted entries never hold more than the 128 words of the pool (R98). -/
def PoolKept (s : State) : Prop := s.poolUsed ≤ Config.poolWords

/-- At most four request entries have WINDOW origin (R147). -/
def WindowQuotaKept (s : State) : Prop := s.windowEntries ≤ Config.windowQuota

/-- At most one posted entry is OPEN (R100). -/
def OneOpen (s : State) : Prop :=
  ∀ p q : PostedIndex, (s.postedEntry p).any (fun e => e.state = .opened) = true →
    (s.postedEntry q).any (fun e => e.state = .opened) = true → p = q

/-- The attention queue holds at most 32 items, no two of the same station and code, each of 1..255 occurrences
(R162). -/
def AttentionKept (s : State) : Prop :=
  s.attention.length ≤ Config.attentionItems ∧
    s.attention.Pairwise (fun a b => a.station ≠ b.station ∨ a.code ≠ b.code) ∧
    ∀ a ∈ s.attention, 1 ≤ a.occurrences ∧ a.occurrences ≤ Config.maxOccurrences

/-- The fault list holds at most 8 records, the dropped count is at most 255, and it is greater than 0 only while the list
holds at least one record (R176). -/
def FaultsKept (s : State) : Prop :=
  s.faults.length ≤ Config.faultRecords ∧ s.dropped ≤ Config.maxDropped ∧ (0 < s.dropped → s.faults ≠ [])

/-- The staging data list holds at most 16 words (R7). -/
def StagingKept (s : State) : Prop := s.staging.data.length ≤ Config.stagingWords

/-- Every configuration register holds a value of its range (R185). -/
def SettingsInRange (g : Settings) : Prop :=
  8 ≤ g.timebaseDivisor.toNat ∧ g.timebaseDivisor.toNat ≤ 32 ∧ 4 ≤ g.replyWindow.toNat ∧ 1 ≤ g.busyBackoff.toNat ∧
    1 ≤ g.parkLimit.toNat ∧ 1 ≤ g.collectInterval.toNat ∧ 1 ≤ g.pollInterval.toNat ∧ 1 ≤ g.holdLimit.toNat ∧
    1 ≤ g.discardTime.toNat

/-- The scheduler's fields lie in their ranges (R89). -/
def SchedulerKept (s : State) : Prop :=
  s.highPosition ≤ 15 ∧ s.lowPosition ≤ 14 ∧ s.starvation ≤ Config.starvationLimit

/-- A station that is not attention capable is never due a poll and its poll timer is stopped; a poll timer runs only while
no poll is due (R163). -/
def PollsKept (s : State) : Prop :=
  ∀ i : StationId,
    ((s.station i).attentionCapable = false → (s.station i).pollDue = false ∧ (s.station i).pollTimer = none) ∧
      ((s.station i).pollDue = true → (s.station i).pollTimer = none)

/-- While the link is DOWN no exchange is in flight, every station is ABSENT and every station queue is empty (R35, R43,
R47). -/
def DownIsQuiet (s : State) : Prop :=
  s.link = .down →
    s.exchange = none ∧ ∀ i : StationId, (s.station i).state = .absent ∧ (s.station i).queue = []

/-- The attempt in progress lies in 1..the attempt limit, and the limit is at most 16 (R75, R78). -/
def AttemptsKept (s : State) : Prop :=
  s.exchange.all (fun x => 1 ≤ x.attempt && x.attempt ≤ x.limit && x.limit ≤ 16) = true

/-! ### Words done (R18) -/

/-- What holds of a request entry's counts: a count of 1..16, 1 for a MODIFY; words done within it, with room for a parked
segment, and equal to it when the request completed with SUCCESS (R2, R18). -/
def Request.countsKept (r : Request) : Bool :=
  1 ≤ r.count && r.count ≤ 16 && r.wordsDone ≤ r.count &&
    (match r.kind with
      | .modify _ => r.count = 1
      | .read | .confirmedWrite => true) &&
    match r.state with
    | .done .success | .delivered .success => r.wordsDone = r.count
    | .parked part => r.wordsDone + part.segment.length ≤ r.count
    | .queued | .active | .waiting _ | .done _ | .delivered _ => true

/-- What holds of a posted entry's counts: 1..16 words, words done within them (R99, R103). -/
def Posted.countsKept (e : Posted) : Bool := 1 ≤ e.count && e.count ≤ 16 && e.wordsDone ≤ e.count

/-- Whether the segment in flight fits in what its owner has still to do (R17, R102). -/
def State.segmentFits (s : State) (x : Exchange) : Bool :=
  match x.kind, x.owner with
  | .readSegment, .request t | .writeSegment, .request t =>
    (s.request t).all fun r => r.wordsDone + x.count ≤ r.count
  | .writeSegment, .posted p => (s.postedEntry p).all fun e => e.wordsDone + x.count ≤ e.count
  | _, _ => true

/-- Words done never exceeds count, of any entry, and equals it on SUCCESS; the segment in flight fits (R18). -/
def WordsDoneKept (s : State) : Prop :=
  (∀ t : Tag, (s.request t).all Request.countsKept = true) ∧
    (∀ p : PostedIndex, (s.postedEntry p).all Posted.countsKept = true) ∧ s.exchange.all s.segmentFits = true

/-! ### Stations that are not ONLINE (R35, R45) -/

/-- A station whose state is not ONLINE has an empty station queue (R35). -/
def OnlineQueuesOnly (s : State) : Prop :=
  ∀ i : StationId, (s.station i).state ≠ .online → (s.station i).queue = []

/-- While the link is ENUMERATING, the pass names no station twice and none that is ONLINE, and the exchange in flight is the
IDENTIFY of its first station (R45). -/
def PassKept (s : State) : Prop :=
  s.link = .enumerating →
    s.pass.Nodup ∧ (∀ i ∈ s.pass, (s.station i).state ≠ .online) ∧
      s.exchange.all (fun x => x.kind = .identify && s.pass.head?.any fun i => x.owner = .station i) = true

end Sys2Proof.Machine
end

