-- ==== Sys2Proof/Certificates/Slice0/Obligations.lean ====
section
/-! DEFINITION. The statements for the provers, in the words of the numbered rules. `Sys2Proof.Claims` holds the terms
they are made in; they restate the spec and call the model's functions only where a statement is about them. -/

namespace Sys2Proof.Claims

open Sys2Proof.Machine

/-! ### The host port -/

/-- The port takes an access at once: RESET is released, no access is held and none waits behind an ended hold (R183).
-/
def PortReady (s : State) : Prop := s.resetInput = false ∧ s.access = none ∧ s.portWaiting = []

/-- COMMAND with a code written to it (R187). -/
def withCode (s : State) (code : Byte) : State := { s with command := code }

/-- The host access a row of the table is (R183, R187): a command is a write of its code to COMMAND. -/
def accessOf : Instr → Option HostAccess
  | .submit => some (.write 0x03#6 0x10#16)
  | .stageClear => some (.write 0x03#6 0x11#16)
  | .cancel => some (.write 0x03#6 0x12#16)
  | .nextCompletion => some (.write 0x03#6 0x20#16)
  | .release => some (.write 0x03#6 0x21#16)
  | .nextAttention => some (.write 0x03#6 0x22#16)
  | .nextFault => some (.write 0x03#6 0x23#16)
  | .linkStart => some (.write 0x03#6 0x30#16)
  | .linkStop => some (.write 0x03#6 0x31#16)
  | .stationHold => some (.write 0x03#6 0x40#16)
  | .stationResume => some (.write 0x03#6 0x41#16)
  | .stationFlush => some (.write 0x03#6 0x42#16)
  | .stationRejoin => some (.write 0x03#6 0x43#16)
  | .controllerReset => some (.write 0x03#6 0x7E#16)
  | .badCommand code => some (.write 0x03#6 (0#8 ++ code))
  | .stageDataWrite v => some (.write 0x0F#6 v)
  | .dataPortRead => some (.read 0x13#6)
  | .interruptCauseWrite v => some (.write 0x1D#6 v)
  | .interruptEnableWrite v => some (.write 0x1E#6 v)
  | .windowStatusWrite v => some (.write 0x1F#6 v)
  | .windowStationWrite v => some (.write 0x20#6 v)
  | .pageBaseWrite v => some (.write 0x21#6 v)
  | .prefetchWrite v => some (.write 0x22#6 v)
  | .timebaseWrite v => some (.write 0x27#6 v)
  | .registerWrite location v => some (.write location v)
  | .apertureRead offset => some (.read (0b11#2 ++ offset))
  | .apertureWrite offset v => some (.write (0b11#2 ++ offset) v)
  | _ => none

/-- The registers of the map whose pin reset value does not follow an input, with that value (R184). -/
def resetMap : List (BitVec 6 × Word) :=
  [(0x00#6, 0x3120#16), (0x01#6, 0x0003#16), (0x03#6, 0#16), (0x04#6, 0#16), (0x05#6, 0#16), (0x06#6, 0#16),
    (0x07#6, 0#16), (0x08#6, 0#16), (0x09#6, 0#16), (0x0A#6, 0#16), (0x0B#6, 0#16), (0x0C#6, 0#16), (0x0D#6, 0#16),
    (0x0E#6, 0#16), (0x0F#6, 0#16), (0x10#6, 0#16), (0x11#6, 0#16), (0x12#6, 0#16), (0x13#6, 0#16), (0x14#6, 0#16),
    (0x15#6, 0#16), (0x16#6, 0#16), (0x17#6, 0#16), (0x18#6, 0#16), (0x19#6, 0#16), (0x1A#6, 0#16)] ++
  [(0x1B#6, 0x8010#16), (0x1C#6, 0#16), (0x1D#6, 0#16), (0x1E#6, 0#16), (0x1F#6, 0#16), (0x20#6, 0x0001#16),
    (0x21#6, 0#16), (0x22#6, 0#16), (0x23#6, 0x0001#16), (0x24#6, 0#16), (0x25#6, 0x0001#16), (0x26#6, 0#16),
    (0x27#6, 0x0010#16), (0x28#6, 0x3120#16), (0x29#6, 0x1040#16), (0x2A#6, 0x0A32#16), (0x2B#6, 0x100A#16),
    (0x2C#6, 0x0014#16), (0x2D#6, 0#16), (0x2E#6, 0#16), (0x2F#6, 0#16)]

/-! ### Codes (R189) -/

/-- The code of each result. -/
def resultNumber : ResultCode → Nat
  | .accepted => 0x00 | .empty => 0x01 | .noSuchTag => 0x02 | .wrongState => 0x03 | .tooLate => 0x04 | .busy => 0x05
  | .badCommand => 0x06 | .badStation => 0x07 | .badKind => 0x08 | .badCount => 0x09 | .badLength => 0x0A
  | .range => 0x0B | .badRelation => 0x0C | .linkNotUp => 0x0D | .stationNotOnline => 0x0E | .tableFull => 0x0F
  | .postedFull => 0x10

/-- The code of each completion status. -/
def statusNumber : Status → Nat
  | .success => 1 | .rejected => 2 | .stationFault => 3 | .noResponse => 4 | .busyLimit => 5 | .parkTimeout => 6
  | .stationLost => 7 | .linkDown => 8 | .cancelled => 9

/-- The code of each fault cause. -/
def causeNumber : FaultCause → Nat
  | .rejected => 1 | .stationFault => 2 | .noResponse => 3 | .busyLimit => 4 | .stationLost => 5 | .linkDown => 6
  | .cancelled => 7 | .windowWriteDropped => 8

/-- The code of each exchange kind. -/
def exchangeNumber : ExchangeKind → Nat
  | .readSegment => 1 | .writeSegment => 2 | .modifyRead => 3 | .modifyWrite => 4 | .collect => 5 | .abandon => 6
  | .poll => 7 | .identify => 8 | .broadcast => 9

/-- The engine state of an exchange in EXCHANGE STATUS: 1 SENDING, 2 AWAITING (R76, R83). -/
def engineNumber : EnginePhase → Nat
  | .pairWait _ | .sending _ | .gap _ => 1
  | .window _ | .receiving _ => 2

/-- The code of each link state in STATUS. -/
def linkNumber : LinkState → Nat
  | .down => 0 | .enumerating => 1 | .up => 2 | .draining => 3

/-- The code of each station state in STATION STATUS. -/
def stationNumber : StationState → Nat
  | .absent => 0 | .probing => 1 | .online => 2 | .lost => 3

/-- The code of the written field of COMPLETION B. -/
def writtenNumber : Written → Nat
  | .no => 0 | .yes => 1 | .unknown => 2

/-- The code of the failed phase field of COMPLETION B: 0 absent. -/
def phaseNumber : Option Phase → Nat
  | none => 0
  | some .read => 1
  | some .write => 2

/-- The code of the last outcome in WINDOW STATUS (R142). -/
def outcomeNumber : WindowOutcome → Nat
  | .ok => 0 | .deferred => 1 | .refused _ => 2 | .error _ => 3

/-- The code field of WINDOW STATUS: a result code for REFUSED, a completion status for ERROR, otherwise none (R142). -/
def outcomeDetail : WindowOutcome → Nat
  | .ok | .deferred => 0
  | .refused code => resultNumber code
  | .error status => statusNumber status

/-- A bit at a position of a location, as a number. -/
def bitAt (position : Nat) (b : Bool) : Nat := if b then 2 ^ position else 0

/-- What the locations that show the link, the engine, the stores and the port's own registers read (R184, R187, R188,
R191). -/
structure LiveReads (s : State) : Prop where
  status : s.attention.length ≤ 32 →
    (s.readLocation 0x02#6).toNat = linkNumber s.link + bitAt 3 s.holdInput + 256 * s.attention.length
  parameter : s.readLocation 0x05#6 = s.parameter
  submitTag : (s.readLocation 0x06#6).toNat = s.submitTag.toNat
  stageStatus : s.staging.data.length ≤ 16 →
    (s.readLocation 0x07#6).toNat = s.staging.data.length + bitAt 8 s.staging.overflow
  postedStatus : s.poolUsed ≤ 128 →
    (s.readLocation 0x1B#6).toNat =
      (List.finRange 16).countP (fun p => (s.postedEntry p).isNone) + 256 * (128 - s.poolUsed)
  exchangeIdle : s.exchange = none → s.readLocation 0x1C#6 = 0#16
  exchangeStatus : ∀ x, s.exchange = some x → x.attempt ≤ 16 →
    (s.readLocation 0x1C#6).toNat =
      x.attempt + 32 * engineNumber x.phase + 256 * exchangeNumber x.kind + 4096 * x.destination.address
  stationStatus : (s.station s.stationSelect).queue.length ≤ 32 →
    (s.readLocation 0x24#6).toNat =
      stationNumber (s.station s.stationSelect).state + bitAt 2 (s.station s.stationSelect).held +
        bitAt 3 (s.settings.tiers.getLsbD s.stationSelect.val) + bitAt 4 (s.station s.stationSelect).parkCapable +
        bitAt 5 (s.station s.stationSelect).attentionCapable + bitAt 6 (s.station s.stationSelect).backlog +
        bitAt 7 (s.station s.stationSelect).pollDue + bitAt 8 (s.station s.stationSelect).toggle +
        512 * (s.station s.stationSelect).queue.length
  stationIdentity : (s.station s.stationSelect).maxBurst ≤ 16 →
    (s.readLocation 0x25#6).toNat =
      (s.station s.stationSelect).maxBurst + 256 * (s.station s.stationSelect).revision.toNat
  stationClass : s.readLocation 0x26#6 = (s.station s.stationSelect).stationClass

/-- What the staging and configuration locations read (R6, R141, R184 to R186, R188). -/
structure SettingReads (s : State) : Prop where
  stageControl : (s.readLocation 0x08#6).toNat =
    s.staging.kind.toNat + 16 * s.staging.mode.toNat + 256 * s.staging.relation.toNat
  stageTarget : (s.readLocation 0x09#6).toNat = s.staging.station.toNat + 256 * s.staging.count.toNat
  stageWords : s.readLocation 0x0A#6 = s.staging.address ∧ s.readLocation 0x0B#6 = s.staging.operand ∧
    s.readLocation 0x0C#6 = s.staging.compareMask ∧ s.readLocation 0x0D#6 = s.staging.newValue ∧
    s.readLocation 0x0E#6 = s.staging.writeMask
  unread : s.readLocation 0x0F#6 = 0#16 ∧ s.readLocation 0x2F#6 = 0#16
  windowStation : (s.readLocation 0x20#6).toNat = stationAddress s.settings.windowStation
  pageBase : s.readLocation 0x21#6 = s.settings.pageBase ++ 0#4
  prefetch : (s.readLocation 0x22#6).toNat = bitAt 0 s.settings.prefetch
  stationSelect : (s.readLocation 0x23#6).toNat = stationAddress s.stationSelect
  timebase : (s.readLocation 0x27#6).toNat = s.settings.timebaseDivisor.toNat
  linkConfig : (s.readLocation 0x28#6).toNat =
    s.settings.replyWindow.toNat + 256 * s.settings.bitRate.toNat + 4096 * s.settings.retryLimit.toNat
  busyConfig : (s.readLocation 0x29#6).toNat = s.settings.busyLimit.toNat + 256 * s.settings.busyBackoff.toNat
  parkConfig : (s.readLocation 0x2A#6).toNat = s.settings.parkLimit.toNat + 256 * s.settings.collectInterval.toNat
  pollAndHold : (s.readLocation 0x2B#6).toNat = s.settings.pollInterval.toNat + 256 * s.settings.holdLimit.toNat
  discardTime : (s.readLocation 0x2C#6).toNat = s.settings.discardTime.toNat
  masks : (s.readLocation 0x2D#6).toNat = 2 * s.settings.expected.toNat ∧
    (s.readLocation 0x2E#6).toNat = 2 * s.settings.tiers.toNat

/-! ### Timers -/

/-- The ticks left of the busy backoff of a request entry (R88). -/
def backoffLeft : Option Request → Option Nat
  | some r => match r.state with
    | .waiting n => some n
    | _ => none
  | none => none

/-- The ticks left of the park timer of a request entry (R131). -/
def parkLeft : Option Request → Option Nat
  | some r => match r.state with
    | .parked part => part.park
    | _ => none
  | none => none

/-- The ticks left of the collect timer of a request entry (R130). -/
def collectLeft : Option Request → Option Nat
  | some r => match r.state with
    | .parked part => match part.collect with
      | .running n => some n
      | _ => none
    | _ => none
  | none => none

/-- The ticks left of the discard timer of a request entry (R151). -/
def discardLeft : Option Request → Option Nat
  | some r => match r.origin with
    | .window w => w.discard
    | .port => none
  | none => none

/-- The ticks left of the busy backoff of a posted entry (R104). -/
def postedBackoffLeft : Option Posted → Option Nat
  | some e => match e.state with
    | .waiting n => some n
    | _ => none
  | none => none

/-- The ticks left of the hold timer (R149, R157). -/
def holdLeft : Option HeldAccess → Option Nat
  | some (.read _ _ n) => some n
  | some (.write _ _ n) => some n
  | none => none

/-- The ticks left of the engine's timer: the wait for the pair (R53), the reply window (R71), the gap (R83). -/
def engineLeft : Option Exchange → Option Nat
  | some x => match x.phase with
    | .pairWait n | .window n | .gap n => some n
    | _ => none
  | none => none

/-- Whether a timer's expiry is due at a tick: the timer runs and no whole tick is left of it. -/
def Due (s : State) : Instr → Prop
  | .busyBackoffExpiry (.request t) => backoffLeft (s.request t) = some 0
  | .busyBackoffExpiry (.posted p) => postedBackoffLeft (s.postedEntry p) = some 0
  | .collectTimerExpiry t => collectLeft (s.request t) = some 0
  | .parkTimerExpiry t => parkLeft (s.request t) = some 0
  | .discardTimerExpiry t => discardLeft (s.request t) = some 0
  | .pollTimerExpiry i => (s.station i).pollTimer = some 0
  | .readHoldExpiry => ∃ t a, s.access = some (.read t a 0)
  | .writeHoldExpiry => ∃ a v, s.access = some (.write a v 0)
  | .pairActiveTimeout => ∃ x, s.exchange = some x ∧ x.phase = .pairWait 0
  | .replyWindowClose => ∃ x, s.exchange = some x ∧ x.phase = .window 0
  | .broadcastGapEnd => ∃ x, s.exchange = some x ∧ x.phase = .gap 0
  | _ => False

/-- A request entry with the ticks left of its timers put to 0: what a tick leaves alone. -/
def untimedRequest (r : Request) : Request :=
  { r with
    state := match r.state with
      | .waiting _ => .waiting 0
      | .parked part =>
        .parked { part with
          park := part.park.map fun _ => 0
          collect := match part.collect with
            | .running _ => .running 0
            | c => c }
      | st => st
    origin := match r.origin with
      | .window w => .window { w with discard := w.discard.map fun _ => 0 }
      | .port => .port }

/-- A posted entry with the ticks left of its backoff put to 0. -/
def untimedPosted (e : Posted) : Posted :=
  { e with
    state := match e.state with
      | .waiting _ => .waiting 0
      | st => st }

/-- An exchange with the ticks left of the engine's timer put to 0. -/
def untimedExchange (x : Exchange) : Exchange :=
  { x with
    phase := match x.phase with
      | .pairWait _ => .pairWait 0
      | .window _ => .window 0
      | .gap _ => .gap 0
      | phase => phase }

/-- A held access with the ticks left of its hold timer put to 0. -/
def untimedAccess : HeldAccess → HeldAccess
  | .read t address _ => .read t address 0
  | .write address value _ => .write address value 0

/-! ### Rows before and after -/

/-- A row of the Posted Store before and after the closure of the OPEN entry (R156). -/
def Closed (before after : Option Posted) : Prop :=
  match before with
  | none => after = none
  | some e => after = some (if e.state = .opened then { e with state := .queued } else e)

/-- A row of the Request Table before and after the acceptance of a write that concerns the stations `hits` (R114,
R152): a window entry is marked stale, or freed when it is DONE. -/
def Marked (hits : StationId → Prop) (before after : Option Request) : Prop :=
  match before with
  | none => after = none
  | some r => match r.origin with
    | .port => after = some r
    | .window w =>
      (¬ hits r.station → after = some r) ∧
        (hits r.station →
          (∀ status, r.state = .done status ∨ r.state = .delivered status → after = none) ∧
            ((∀ status, r.state ≠ .done status ∧ r.state ≠ .delivered status) →
              after = some { r with origin := .window { w with stale := true } }))

/-- The row a request entry leaves when it completes (R20, R151, R152): DONE with the status; a window entry's discard
timer starts, and a stale one is freed. -/
def completedRow (g : Settings) (r : Request) (status : Status) : Option Request :=
  match r.origin with
  | .port => some { r with state := .done status }
  | .window w =>
    if w.stale then none
    else
      some { r with
        state := .done status, origin := .window { w with discard := some (1000 * g.discardTime.toNat) } }

/-- The Completion List after a completion: a PORT tag joins its tail (R20). -/
def completedList (s : State) (u : Tag) (r : Request) : List Tag :=
  match r.origin with
  | .port => s.completionList ++ [u]
  | .window _ => s.completionList

/-- The latched causes after a completion: WINDOW is latched by a window entry that is not held (R150). -/
def completedCauses (s : State) (r : Request) : LatchedCauses :=
  match r.origin with
  | .port => s.latched
  | .window w => { s.latched with window := s.latched.window || !w.held }

/-- The state after the completion of one request entry, already changed to `r`: its row, the Completion List, the
WINDOW cause, and its station's queue without it. -/
def completed (s : State) (u : Tag) (r : Request) (status : Status) : State :=
  { s with
    requests := s.requests.set u (completedRow s.settings r status)
    completionList := completedList s u r
    latched := completedCauses s r
    stations :=
      s.stations.set r.station
        { s.station r.station with queue := (s.station r.station).queue.erase (.request u) } }

/-- A request entry that is QUEUED, ACTIVE, WAITING or PARKED (R5). -/
def Unfinished (r : Request) : Prop := ∀ status, r.state ≠ .done status ∧ r.state ≠ .delivered status

/-- The fault list after some records are made one after another: those that fit in 8 are kept (R176). -/
def recorded (faults records : List FaultRecord) : List FaultRecord :=
  faults ++ records.take (8 - faults.length)

/-- The dropped count after some records are made one after another: those that do not fit are counted, up to 255
(R176). -/
def dropsCounted (faults records : List FaultRecord) (dropped : Nat) : Nat :=
  min 255 (dropped + (records.length - (8 - faults.length)))

/-- The fault record of a posted entry that is freed (R105). -/
def postedRecord (e : Posted) (cause : FaultCause) : FaultRecord where
  cause := cause
  target := e.target
  address := match e.mode with
    | .increment => e.start + BitVec.ofNat 16 e.wordsDone
    | .fixed => e.start
  wordsDone := e.wordsDone

/-- A queue without a freed posted entry, in the state: its station's queue or the broadcast queue (R105). -/
def unqueued (s : State) (target : Target) (p : PostedIndex) : State :=
  match target with
  | .station i =>
    { s with
      stations :=
        s.stations.set i { s.station i with queue := (s.station i).queue.erase (.posted p) } }
  | .broadcast => { s with broadcastQueue := s.broadcastQueue.erase p }

/-- The state after a posted entry is freed, with a fault record for each cause given (R105, R176). -/
def freed (s : State) (p : PostedIndex) (e : Posted) (causes : List FaultCause) : State :=
  let records := causes.map (postedRecord e)
  { unqueued { s with posted := s.posted.set p none } e.target p with
    faults := recorded s.faults records
    dropped := if records = [] then s.dropped else dropsCounted s.faults records s.dropped }

/-! ### SUBMIT (R9) -/

/-- The code a staged relation has (R189). -/
def relationCode : Relation → Nat
  | .eq => 1
  | .ne => 2
  | .ltu => 3
  | .geu => 4
  | .lts => 5
  | .ges => 6

/-- The conditions of R9's table, each under the code it refuses with. Staged kinds are 1 READ, 2 CONFIRMED WRITE,
3 MODIFY, 4 POSTED WRITE, 5 BROADCAST WRITE. -/
def Refuses (s : State) : ResultCode → Prop
  | .badKind => ¬(1 ≤ s.staging.kind.toNat ∧ s.staging.kind.toNat ≤ 5)
  | .badStation =>
    (s.staging.kind ≠ 5#4 ∧ ¬(1 ≤ s.staging.station.toNat ∧ s.staging.station.toNat ≤ 14)) ∨
      (s.staging.kind = 5#4 ∧ s.staging.station.toNat ≠ 15)
  | .badCount =>
    s.staging.count.toNat = 0 ∨ 16 < s.staging.count.toNat ∨
      (s.staging.kind = 3#4 ∧ s.staging.count.toNat ≠ 1)
  | .badLength =>
    (s.staging.kind = 2#4 ∨ s.staging.kind = 4#4 ∨ s.staging.kind = 5#4) ∧
      (s.staging.overflow = true ∨ s.staging.data.length ≠ s.staging.count.toNat)
  | .range =>
    s.staging.mode = 0#1 ∧ s.staging.kind ≠ 3#4 ∧
      0xFFFF < s.staging.address.toNat + s.staging.count.toNat - 1
  | .badRelation =>
    s.staging.kind = 3#4 ∧ ∀ relation, relationCode relation ≠ s.staging.relation.toNat
  | .linkNotUp => s.link ≠ .up ∧ s.link ≠ .enumerating
  | .stationNotOnline =>
    s.staging.kind ≠ 5#4 ∧
      ∀ i, stationAddress i = s.staging.station.toNat → (s.station i).state ≠ .online
  | .tableFull => s.staging.kind.toNat ≤ 3 ∧ ∀ u, s.request u ≠ none
  | .postedFull =>
    4 ≤ s.staging.kind.toNat ∧
      ((∀ p, s.postedEntry p ≠ none) ∨ 128 < s.poolUsed + s.staging.count.toNat)
  | _ => False

/-- The order of the checks (R9). -/
def checkOrder : List ResultCode :=
  [.badKind, .badStation, .badCount, .badLength, .range, .badRelation, .linkNotUp, .stationNotOnline, .tableFull,
    .postedFull]

/-- No check refuses the staged request. -/
def Accepts (s : State) : Prop := ∀ code ∈ checkOrder, ¬ Refuses s code

/-- A request entry has the fields of a staged request of a deferred kind (R2, R3). -/
def StagedAs (g : Staging) (r : Request) : Prop :=
  r.origin = .port ∧ r.start = g.address ∧ (r.mode = .increment ↔ g.mode = 0#1) ∧ r.count = g.count.toNat ∧
    r.wordsDone = 0 ∧ r.state = .queued ∧ r.busyCount = 0 ∧ r.cancelPending = false ∧ r.abandonPending = false ∧
    (g.kind = 1#4 → r.kind = .read ∧ r.data = []) ∧
    (g.kind = 2#4 → r.kind = .confirmedWrite ∧ r.data = g.data) ∧
    (g.kind = 3#4 →
      r.data = [] ∧
        ∃ m, r.kind = .modify m ∧ relationCode m.relation = g.relation.toNat ∧ m.operand = g.operand ∧
          m.compareMask = g.compareMask ∧ m.newValue = g.newValue ∧ m.writeMask = g.writeMask ∧ m.phase = .read ∧
          m.oldValue = none ∧ m.written = .no ∧ m.failedPhase = none)

/-- The state an accepted SUBMIT leaves, apart from the stores and the queues (R11, R12). -/
def submitted (s : State) (n : Nat) : State :=
  { s with
    command := 0x10#8
    result := .accepted
    submitTag := BitVec.ofNat 4 n
    staging := { s.staging with data := [], overflow := false }
    nextOrder := s.nextOrder + 1 }

/-! ### Frames (R56 to R58) -/

/-- The header word of a frame the 3120 sends: destination in bits 15..12, type in 7..4, TOGGLE 3, NOPARK 2, INCR 1. -/
def header (destination type : Nat) (toggle nopark incr : Bool) : Word :=
  BitVec.ofNat 16
    (destination * 4096 + type * 16 + (if toggle then 8 else 0) + (if nopark then 4 else 0) + (if incr then 2 else 0))

/-- A frame closed by the CRC of its words (R55). -/
def closed (words : List Word) : List Word := words ++ [crc words]

/-- The exchange a grant begins (R75, R78): attempt 1 of 1 + the retry limit, waiting for the pair. -/
def begun (s : State) (kind : ExchangeKind) (owner : Owner) (destination : Target) (words : List Word) : Exchange where
  kind := kind
  owner := owner
  destination := destination
  frame := closed words
  attempt := 1
  limit := 1 + s.settings.retryLimit.toNat
  phase := .pairWait s.settings.replyWindow.toNat

/-- The address of a request's next word (R17, R102). -/
def addressAt (mode : Mode) (start : Word) (done : Nat) : Word :=
  match mode with
  | .increment => start + BitVec.ofNat 16 done
  | .fixed => start

/-- How far after a position an address comes in the search of a tier of `size` members: the position itself comes last
(R95). -/
def searchDistance (size position m : Nat) : Nat := (m + size - 1 - position) % size

/-- The member the search of R95 finds: eligible, and every other eligible member comes later. -/
def FirstAfter (eligible : Nat → Bool) (size position n : Nat) : Prop :=
  1 ≤ n ∧ n ≤ size ∧ eligible n = true ∧
    ∀ m, 1 ≤ m → m ≤ size → m ≠ n → eligible m = true →
      searchDistance size position n < searchDistance size position m

/-- No member of a tier is eligible. -/
def NoneEligible (eligible : Nat → Bool) (size : Nat) : Prop := ∀ m, 1 ≤ m → m ≤ size → eligible m = false

/-- A grant is made to the member at address `n` of the given tier (R90, R95, R96): the first eligible one after the
tier's position, in the tier the starvation guard allows. `count` is the starvation count after the grant. -/
def Chosen (s : State) (n : Nat) (low : Bool) (count : Nat) : Prop :=
  SchedulerKept s ∧ s.exchange = none ∧ s.link = .up ∧ s.holdInput = false ∧
    if low then
      FirstAfter s.eligibleLow 14 s.lowPosition n ∧ (NoneEligible s.eligibleHigh 15 ∨ 8 ≤ s.starvation) ∧ count = 0
    else
      FirstAfter s.eligibleHigh 15 s.highPosition n ∧
        ((NoneEligible s.eligibleLow 14 ∧ count = 0) ∨
          (¬ NoneEligible s.eligibleLow 14 ∧ s.starvation < 8 ∧ count = s.starvation + 1))

/-- The scheduler's fields after a grant (R94, R96). -/
def granted (s : State) (n : Nat) (low : Bool) (count : Nat) : State :=
  if low then { s with lowPosition := n, starvation := count } else { s with highPosition := n, starvation := count }

/-! ### Replies (R72, R77) -/

/-- The type codes of the replies an exchange kind accepts (R77). -/
def acceptable (kind : ExchangeKind) (parkable parkedWrite : Bool) : List Nat :=
  match kind with
  | .readSegment => if parkable then [0x8, 0xA, 0xB] else [0x8, 0xA]
  | .writeSegment => if parkable then [0x9, 0xA, 0xB] else [0x9, 0xA]
  | .modifyRead => [0x8, 0xA]
  | .modifyWrite => [0x9, 0xA]
  | .collect => if parkedWrite then [0x9, 0xB, 0xA] else [0x8, 0xB, 0xA]
  | .abandon => [0x9]
  | .poll => [0xC, 0xD]
  | .identify => [0xE]
  | .broadcast => []

/-- The low byte of a word. -/
def low (w : Word) : Byte := w.extractLsb' 0 8

/-- The high byte of a word. -/
def high (w : Word) : Byte := w.extractLsb' 8 8

/-- What the words between the header and the CRC of a reply must be for it to carry the given contents (R56, the fifth
test of R72). -/
def Carries (e : Expected) (head : Word) (body : List Word) : Reply → Prop
  | .data words => ∃ count : Word, body = e.address :: count :: words ∧ count.toNat = e.count ∧
      words.length = e.count ∧ 1 ≤ e.count ∧ e.count ≤ 16
  | .ack => body = []
  | .parked => body = []
  | .quiet => body = []
  | .nak .busy => body = [1#16]
  | .nak .reject => body = [2#16]
  | .nak .fault => body = [3#16]
  | .attn items more => ∃ echo count : Word, ∃ words, body = echo :: count :: words ∧
      low echo = e.acceptedThrough ∧ count.toNat = items.length ∧ 1 ≤ items.length ∧ items.length ≤ 4 ∧
      words = items.flatMap (fun a => [a.sequence ++ a.code, a.info]) ∧ more = head.getLsbD 0
  | .identity f => ∃ w2 w3 w4 : Word, body = [w2, w3, w4] ∧ f.stationClass = w2 ∧ f.revision = high w3 ∧
      f.maxBurst = w3.toNat % 32 ∧ 1 ≤ f.maxBurst ∧ f.maxBurst ≤ 16 ∧ f.parkCapable = w3.getLsbD 6 ∧
      f.attentionCapable = w3.getLsbD 7 ∧ f.attentionBase = low w4

/-- The type code a reply has (R57). -/
def typeCode : Reply → Nat
  | .data _ => 0x8
  | .ack => 0x9
  | .nak _ => 0xA
  | .parked => 0xB
  | .attn _ _ => 0xC
  | .quiet => 0xD
  | .identity _ => 0xE

/-- A reception is in progress whose end judges the attempt valid with the given reply (R72). -/
def Receives (s : State) (x : Exchange) (rc : Reception) (reply : Reply) : Prop :=
  s.exchange = some x ∧ (∃ rate, x.phase = .receiving rate) ∧ s.judgement x rc = some reply

/-- The link is UP and no host access is held: the end of an exchange touches its owner and its station alone. -/
def Quiet (s : State) : Prop := s.link = .up ∧ s.access = none

/-- The engine IDLE and the toggle of the station flipped (R80, R81). -/
def answered (s : State) (i : StationId) : State :=
  { s with
    exchange := none
    stations := s.stations.set i { s.station i with toggle := !(s.station i).toggle } }

/-- The exchange carries a segment or phase of the ACTIVE request entry `r`, which is not stale. -/
def CarriesRequest (s : State) (x : Exchange) (u : Tag) (r : Request) : Prop :=
  x.owner = .request u ∧ x.destination = .station r.station ∧ s.request u = some r ∧ r.state = .active ∧
    (∀ w, r.origin = .window w → w.stale = false)

/-- The exchange is a COLLECT or ABANDON of the PARKED request entry `r`, which is not stale. -/
def CarriesParked (s : State) (x : Exchange) (u : Tag) (r : Request) (part : ParkPart) : Prop :=
  x.owner = .request u ∧ x.destination = .station r.station ∧ s.request u = some r ∧ r.state = .parked part ∧
    (∀ w, r.origin = .window w → w.stale = false)

/-- The exchange carries a segment of the ACTIVE posted entry `e`. -/
def CarriesPosted (s : State) (x : Exchange) (p : PostedIndex) (e : Posted) (i : StationId) : Prop :=
  x.kind = .writeSegment ∧ x.owner = .posted p ∧ x.destination = .station i ∧ e.target = .station i ∧
    s.postedEntry p = some e ∧ e.state = .active

/-- The number of words a READ or WRITE frame carries: its third word (R56). -/
def frameCount (x : Exchange) : Nat := (x.frame.getD 2 0#16).toNat

/-! ### Window entries (R143) -/

/-- A window entry matches an aperture read of an address (R143). -/
def Matches (s : State) (u : Tag) (r : Request) (w : WindowPart) (a : Word) : Prop :=
  s.request u = some r ∧ r.origin = .window w ∧ r.station = s.settings.windowStation ∧ w.stale = false ∧
    r.start.toNat + w.front ≤ a.toNat ∧ a.toNat < r.start.toNat + r.count

/-- The match an aperture read takes: of several, the one accepted earliest (R143). -/
def EarliestMatch (s : State) (u : Tag) (r : Request) (w : WindowPart) (a : Word) : Prop :=
  Matches s u r w a ∧ ∀ v q y, v ≠ u → Matches s v q y a → r.order < q.order

/-- The address an aperture access reaches (R141). -/
def reached (s : State) (offset : BitVec 4) : Word := s.settings.pageBase ++ offset

end Sys2Proof.Claims

open Sys2Proof Sys2Proof.Machine Sys2Proof.Claims

/-! ### The step and the host port -/

/-- With a command at the front of the queue, a step carries out that command with the queue's rest. -/
def Obligations.StepRunsTheFrontCommand : Prop :=
  ∀ (s : State) (c : Instr) (rest : List Instr),
    s.pending = c :: rest → step s = exec c { s with pending := rest }

/-- With an empty queue a step is one tick of the 1 µs timebase: every running timer counts down, the expiries that
are due are queued, each as its own command, and nothing else changes. That a tick is what an empty queue's step does,
unless a stretched access can be taken (HostAccessesWaitBehindAHold), is the model's choice (assumption log 1); that a
timer started with n ticks expires at the tick after its n-th is read from R71, R88, R129 and R163, "at least the
interval and less than one microsecond more" (assumption log 3). -/
def Obligations.EmptyQueueTicksTheTimebase : Prop :=
  ∀ s : State, s.pending = [] → s.resetInput = true ∨ s.access ≠ none ∨ s.portWaiting = [] →
    ∃ t, step s = .next t ∧ (∀ c, c ∈ t.pending ↔ Due s c) ∧
      (∀ u, (t.request u).map untimedRequest = (s.request u).map untimedRequest ∧
        backoffLeft (t.request u) = (backoffLeft (s.request u)).map (· - 1) ∧
        parkLeft (t.request u) = (parkLeft (s.request u)).map (· - 1) ∧
        collectLeft (t.request u) = (collectLeft (s.request u)).map (· - 1) ∧
        discardLeft (t.request u) = (discardLeft (s.request u)).map (· - 1)) ∧
      (∀ p, (t.postedEntry p).map untimedPosted = (s.postedEntry p).map untimedPosted ∧
        postedBackoffLeft (t.postedEntry p) = (postedBackoffLeft (s.postedEntry p)).map (· - 1)) ∧
      (∀ i, t.station i = { s.station i with pollTimer := (s.station i).pollTimer.map (· - 1) }) ∧
      t.exchange.map untimedExchange = s.exchange.map untimedExchange ∧
      engineLeft t.exchange = (engineLeft s.exchange).map (· - 1) ∧
      t.access.map untimedAccess = s.access.map untimedAccess ∧
      holdLeft t.access = (holdLeft s.access).map (· - 1) ∧
      { t with
        pending := s.pending, requests := s.requests, posted := s.posted, stations := s.stations,
        exchange := s.exchange, access := s.access } = s

/-- Every row of the table answers a next state in every state, and leaves the queue of waiting commands as it is. -/
def Obligations.EveryCommandAnswersANextState : Prop :=
  ∀ (c : Instr) (s : State), ∃ t, exec c s = .next t ∧ t.pending = s.pending

/-- While RESET is asserted no host access is taken; while an access is held, or one waits behind a hold, another
waits after those that wait already, and WAIT is asserted. No other row but PIN_RESET changes the waiting accesses.
Once the hold has ended, the oldest is taken in a step of its own, as its row would carry it out at a free port, and
the others wait on: behind it, if it is held in its turn. That the waiting list is how the stretched bus is held, that
accesses given under RESET are dropped, and that an access is taken when no command waits are the model's choices
(assumption log 1, 5 and 6). -/
def Obligations.HostAccessesWaitBehindAHold : Prop :=
  (∀ (c : Instr) (a : HostAccess) (s : State), accessOf c = some a →
    (s.resetInput = true → exec c s = .next s) ∧
      (s.resetInput = false → s.access ≠ none ∨ s.portWaiting ≠ [] →
        exec c s = .next { s with portWaiting := s.portWaiting ++ [a] })) ∧
    (∀ s : State, s.waitAsserted = true ↔ s.access ≠ none ∨ s.portWaiting ≠ []) ∧
    (∀ (c : Instr) (s t : State), accessOf c = none → c ≠ .pinReset → exec c s = .next t →
      t.portWaiting = s.portWaiting) ∧
    ∀ (s : State) (a : HostAccess) (rest : List HostAccess), s.pending = [] → s.resetInput = false →
      s.access = none → s.portWaiting = a :: rest →
        step s = .next (takeAccess a { s with portWaiting := rest }) ∧
          ∀ c, accessOf c = some a →
            ∃ t, exec c { s with portWaiting := [] } = .next t ∧ step s = .next { t with portWaiting := rest }

/-- When the port takes it, a host access of any row acts as a read or write of its location does: a command as a
write of its code to COMMAND. -/
def Obligations.HostAccessActsAsItsLocation : Prop :=
  ∀ (c : Instr) (a : HostAccess) (s : State), accessOf c = some a → PortReady s →
    exec c s = .next (takeAccess a s)

/-- ID reads 3120h and REVISION 0003h in every state; a write to either changes nothing; a pin reset and a
CONTROLLER-RESET leave what they read. -/
def Obligations.IdentificationNeverChanges : Prop :=
  (∀ s : State, s.readLocation 0x00#6 = 0x3120#16 ∧ s.readLocation 0x01#6 = 0x0003#16) ∧
    (∀ (s : State) (v : Word), PortReady s →
      exec (.registerWrite 0x00#6 v) s = .next s ∧ exec (.registerWrite 0x01#6 v) s = .next s) ∧
    ∀ (s t : State), exec .pinReset s = .next t ∨ exec .controllerReset s = .next t →
      t.readLocation 0x00#6 = s.readLocation 0x00#6 ∧ t.readLocation 0x01#6 = s.readLocation 0x01#6

/-! ### Resets and pins -/

/-- The release of RESET and a change of the HOLD input change that level and nothing else. The assertion of RESET:
the block is as State.reset is; every location reads its pin reset value, STATUS follows HOLD; WAIT and INT are
deasserted, the line driver is off; a held read returns 0FFFFh; every entry is FREE, every list empty, every station
record at its reset values, the data port position and the scheduler's fields 0. The model's choices: the accesses
that waited are dropped (assumption log 6), the data lines hold nothing when no read was held (log 7), the counter of
acceptances restarts (log 8), and what is outside the block, the queue of commands and the HOLD level, is kept (log
26). -/
def Obligations.PinsResetTheBlockOrMoveTheirLevel : Prop :=
  ∀ s : State,
    exec .resetRelease s = .next { s with resetInput := false } ∧
    exec .holdAsserted s = .next { s with holdInput := true } ∧
    exec .holdReleased s = .next { s with holdInput := false } ∧
    ∃ t, exec .pinReset s = .next t ∧
    t = { State.reset with
      pending := s.pending, holdInput := s.holdInput, resetInput := true
      dataOut := match s.access with
        | some (.read _ _ _) => some 0xFFFF#16
        | _ => none } ∧
    (∀ e ∈ resetMap, t.readLocation e.1 = e.2) ∧
    t.readLocation 0x02#6 = (if s.holdInput then 0x0008#16 else 0x0000#16) ∧
    t.intAsserted = false ∧ t.waitAsserted = false ∧ t.lineDriver = false ∧ t.exchange = none ∧
    (∀ u, t.request u = none) ∧ (∀ p, t.postedEntry p = none) ∧
    (∀ i, t.station i = Station.reset) ∧ t.broadcastQueue = [] ∧ t.completionList = [] ∧ t.attention = [] ∧
    t.faults = [] ∧ t.dropped = 0 ∧ t.staging.data = [] ∧ t.dataPosition = 0 ∧ t.nextOrder = 0 ∧
    t.portWaiting = [] ∧ t.link = .down ∧ t.pass = [] ∧
    t.highPosition = 0 ∧ t.lowPosition = 0 ∧ t.starvation = 0

/-- CONTROLLER-RESET keeps the configuration registers, the interrupt enables and STATION SELECT; COMMAND reads 7Eh, the
result is ACCEPTED, INT is deasserted, and everything else the block holds is as after pin reset. What lies outside the
block (the queue of commands, the bus, the input levels) is the model's own and kept (assumption log 6 and 7). -/
def Obligations.ControllerResetKeepsConfiguration : Prop :=
  ∀ s : State, PortReady s →
    ∃ t, exec .controllerReset s = .next t ∧
      t = { State.reset with
        pending := s.pending, command := 0x7E#8, settings := s.settings, enables := s.enables,
        stationSelect := s.stationSelect, portWaiting := s.portWaiting, dataOut := s.dataOut,
        holdInput := s.holdInput, resetInput := s.resetInput } ∧
      t.intAsserted = false ∧ t.waitAsserted = false ∧ t.lineDriver = false

/-! ### The staging area and SUBMIT -/

/-- STAGE-CLEAR empties the list, clears the flag and returns ACCEPTED, in every link state; the staging fields and
everything else stay. -/
def Obligations.StageClearEmptiesTheStagedData : Prop :=
  ∀ s : State, PortReady s →
    exec .stageClear s =
      .next { s with
        command := 0x11#8, result := .accepted, staging := { s.staging with data := [], overflow := false } }

/-- A write to STAGE DATA appends its word while the list holds fewer than 16 words, and only sets staging-overflow
otherwise; STAGE STATUS shows the number of words and the flag. -/
def Obligations.StageDataWriteAppendsOrOverflows : Prop :=
  ∀ (s : State) (v : Word), PortReady s →
    ∃ t, exec (.stageDataWrite v) s = .next t ∧
      (s.staging.data.length < 16 →
        t = { s with staging := { s.staging with data := s.staging.data ++ [v] } }) ∧
      (16 ≤ s.staging.data.length → t = { s with staging := { s.staging with overflow := true } }) ∧
      (s.staging.data.length ≤ 16 →
        (t.readLocation 0x07#6).toNat = t.staging.data.length + if t.staging.overflow then 256 else 0)

/-- The first condition of R9's table that holds refuses the SUBMIT with its code. Beside COMMAND and the result, only
the closure of the OPEN entry takes place. -/
def Obligations.FirstFailedCheckRefusesSubmit : Prop :=
  ∀ (s : State) (before after : List ResultCode) (code : ResultCode),
    PortReady s → checkOrder = before ++ code :: after → Refuses s code → (∀ c ∈ before, ¬ Refuses s c) →
      ∃ t, exec .submit s = .next t ∧ (∀ p, Closed (s.postedEntry p) (t.postedEntry p)) ∧
        { t with posted := s.posted } = { s with command := 0x10#8, result := code }

/-- An accepted SUBMIT of a deferred kind takes the lowest-numbered FREE request entry and appends it to its station's
queue; a CONFIRMED WRITE and a MODIFY mark the station's window entries stale, which frees a DONE one (R152), and a
READ marks none. That the tag taken is the lowest one FREE before that marking is DEDUCED (assumption log 23). -/
def Obligations.SubmitAcceptsADeferredRequest : Prop :=
  ∀ s : State, PortReady s → Accepts s → s.staging.kind.toNat ≤ 3 →
    ∃ t u i r, exec .submit s = .next t ∧ stationAddress i = s.staging.station.toNat ∧
      s.request u = none ∧ (∀ v, v < u → s.request v ≠ none) ∧
      t.request u = some r ∧ StagedAs s.staging r ∧ r.station = i ∧ r.order = s.nextOrder ∧
      (s.staging.kind = 1#4 → ∀ v, v ≠ u → t.request v = s.request v) ∧
      (s.staging.kind ≠ 1#4 → ∀ v, v ≠ u → Marked (· = i) (s.request v) (t.request v)) ∧
      t.station i = { s.station i with queue := (s.station i).queue ++ [.request u] } ∧
      (∀ j, j ≠ i → t.station j = s.station j) ∧ (∀ p, Closed (s.postedEntry p) (t.postedEntry p)) ∧
      { t with requests := s.requests, stations := s.stations, posted := s.posted } = submitted s u

/-- An accepted SUBMIT of a posted kind takes the lowest-numbered FREE posted entry and as many pool words as its count,
appends it to its station's queue or to the broadcast queue, and marks stale the window entries of its station, or of
every station for a broadcast. -/
def Obligations.SubmitAcceptsAPostedRequest : Prop :=
  ∀ s : State, PortReady s → Accepts s → 4 ≤ s.staging.kind.toNat →
    ∃ t p e, exec .submit s = .next t ∧ s.postedEntry p = none ∧ (∀ q, q < p → s.postedEntry q ≠ none) ∧
      t.postedEntry p = some e ∧ e.origin = .port ∧ e.target.address = s.staging.station.toNat ∧
      e.start = s.staging.address ∧ (e.mode = .increment ↔ s.staging.mode = 0#1) ∧ e.data = s.staging.data ∧
      e.count = s.staging.count.toNat ∧ e.wordsDone = 0 ∧ e.state = .queued ∧ e.busyCount = 0 ∧
      e.flushPending = false ∧ e.order = s.nextOrder ∧
      (∀ q, q ≠ p → Closed (s.postedEntry q) (t.postedEntry q)) ∧
      t.poolUsed = s.poolUsed + s.staging.count.toNat ∧
      (e.target = .broadcast →
        t.broadcastQueue = s.broadcastQueue ++ [p] ∧ t.stations = s.stations ∧
          ∀ u, Marked (fun _ => True) (s.request u) (t.request u)) ∧
      (∀ i, e.target = .station i →
        t.broadcastQueue = s.broadcastQueue ∧
          t.station i = { s.station i with queue := (s.station i).queue ++ [.posted p] } ∧
          (∀ j, j ≠ i → t.station j = s.station j) ∧ ∀ u, Marked (· = i) (s.request u) (t.request u)) ∧
      { t with
        requests := s.requests, stations := s.stations, posted := s.posted,
        broadcastQueue := s.broadcastQueue } = submitted s p

/-! ### Completions, CANCEL and RELEASE -/

/-- CANCEL by the state of the entry PARAMETER names: QUEUED and WAITING complete CANCELLED, ACTIVE gets cancel pending,
PARKED gets cancel and abandon pending and its collect timer stops; DONE and DELIVERED give TOO-LATE, a FREE entry or a
value above 15 NO-SUCH-TAG, a window entry WRONG-STATE, each changing nothing else. -/
def Obligations.CancelActsByEntryState : Prop :=
  ∀ s : State, PortReady s →
    (15 < s.parameter.toNat → exec .cancel s = .next { withCode s 0x12#8 with result := .noSuchTag }) ∧
      ∀ u : Tag, s.parameter.toNat = u.val →
        (s.request u = none → exec .cancel s = .next { withCode s 0x12#8 with result := .noSuchTag }) ∧
          (∀ r w, s.request u = some r → r.origin = .window w →
            exec .cancel s = .next { withCode s 0x12#8 with result := .wrongState }) ∧
          ∀ r, s.request u = some r → r.origin = .port →
            (∀ status, r.state = .done status ∨ r.state = .delivered status →
              exec .cancel s = .next { withCode s 0x12#8 with result := .tooLate }) ∧
            (∀ n, r.state = .queued ∨ r.state = .waiting n →
              exec .cancel s = .next { withCode (completed s u r .cancelled) 0x12#8 with result := .accepted }) ∧
            (r.state = .active →
              exec .cancel s =
                .next { withCode s 0x12#8 with
                  result := .accepted, requests := s.requests.set u (some { r with cancelPending := true }) }) ∧
            (∀ part, r.state = .parked part →
              exec .cancel s =
                .next { withCode s 0x12#8 with
                  result := .accepted
                  requests := s.requests.set u
                    (some { r with
                      cancelPending := true, abandonPending := true
                      state := .parked { part with collect := .stopped } }) })

/-- RELEASE frees a DELIVERED PORT entry and returns ACCEPTED; a FREE entry or a value above 15 gives NO-SUCH-TAG; a
window entry or a PORT entry in any other state gives WRONG-STATE; nothing else changes. -/
def Obligations.ReleaseFreesOnlyADeliveredEntry : Prop :=
  ∀ s : State, PortReady s →
    (15 < s.parameter.toNat → exec .release s = .next { withCode s 0x21#8 with result := .noSuchTag }) ∧
      ∀ u : Tag, s.parameter.toNat = u.val →
        (s.request u = none → exec .release s = .next { withCode s 0x21#8 with result := .noSuchTag }) ∧
          ∀ r, s.request u = some r →
            (∀ status, r.origin = .port → r.state = .delivered status →
              exec .release s =
                .next { withCode s 0x21#8 with result := .accepted, requests := s.requests.set u none }) ∧
            ((r.origin ≠ .port ∨ ∀ status, r.state ≠ .delivered status) →
              exec .release s = .next { withCode s 0x21#8 with result := .wrongState })

/-- NEXT-COMPLETION takes the oldest tag: its entry becomes DELIVERED, the completion record is latched from it and
the data port position becomes 0; on an empty list it returns EMPTY and changes nothing else. COMPLETION A, B and OLD
VALUE read the record, in the codes of R189. -/
def Obligations.NextCompletionDeliversTheOldest : Prop :=
  (∀ s : State,
    (s.readLocation 0x10#6).toNat =
      s.completion.tag.toNat + 16 * s.completion.kind.toNat + 256 * s.completion.station.toNat +
        4096 * s.completion.status.toNat ∧
    (s.readLocation 0x11#6).toNat =
      s.completion.wordsDone.toNat + bitAt 8 s.completion.oldPresent + 512 * s.completion.written.toNat +
        4096 * s.completion.failedPhase.toNat ∧
    s.readLocation 0x12#6 = s.completion.oldValue) ∧
  ∀ s : State, PortReady s →
    (s.completionList = [] → exec .nextCompletion s = .next { withCode s 0x20#8 with result := .empty }) ∧
      ∀ u rest r status, s.completionList = u :: rest → s.request u = some r → r.state = .done status →
        ∃ c, exec .nextCompletion s =
            .next { withCode s 0x20#8 with
              result := .accepted, completionList := rest, dataPosition := 0, completion := c
              requests := s.requests.set u (some { r with state := .delivered status }) } ∧
          c.tag.toNat = u.val ∧ c.station.toNat = stationAddress r.station ∧ c.status.toNat = statusNumber status ∧
          c.wordsDone = BitVec.ofNat 5 r.wordsDone ∧
          (r.kind = .read → c.kind = 1#3) ∧ (r.kind = .confirmedWrite → c.kind = 2#3) ∧
          (r.kind = .read ∨ r.kind = .confirmedWrite →
            c.oldPresent = false ∧ c.written = 0#2 ∧ c.failedPhase = 0#2 ∧ c.oldValue = 0#16) ∧
          ∀ m, r.kind = .modify m →
            c.kind = 3#3 ∧ (c.oldPresent = true ↔ m.oldValue ≠ none) ∧
              (∀ old, m.oldValue = some old → c.oldValue = old) ∧ (m.oldValue = none → c.oldValue = 0#16) ∧
              c.written.toNat = writtenNumber m.written ∧ c.failedPhase.toNat = phaseNumber m.failedPhase

/-- A read of DATA PORT returns the word at the position while the entry the record names is DELIVERED and the
position is below its words done, 0000h otherwise, and the position advances by one, up to 16. -/
def Obligations.DataPortReadReturnsAndAdvances : Prop :=
  ∀ s : State, PortReady s →
    ∃ v, exec .dataPortRead s =
        .next { s with dataOut := some v, dataPosition := min 16 (s.dataPosition + 1) } ∧
      ∀ u : Tag, s.completion.tag.toNat = u.val →
        (∀ r status, s.request u = some r → r.state = .delivered status → s.dataPosition < r.wordsDone →
          s.dataPosition < r.data.length → r.data[s.dataPosition]? = some v) ∧
        (∀ r, s.request u = some r → r.wordsDone ≤ s.dataPosition → v = 0#16) ∧
        ((∀ r status, s.request u = some r → r.state ≠ .delivered status) → v = 0#16)

/-! ### The attention queue and the fault list -/

/-- NEXT-ATTENTION latches and removes the oldest item and makes a poll due for every backlogged, attention-capable
station whose POLL is not in flight; on an empty queue it returns EMPTY and changes nothing else. ATTENTION A, B and
INFO read the record. -/
def Obligations.NextAttentionTakesTheOldestItem : Prop :=
  (∀ s : State,
    (s.readLocation 0x14#6).toNat = s.attentionRecord.station.toNat + 256 * s.attentionRecord.code.toNat ∧
    (s.readLocation 0x15#6).toNat = s.attentionRecord.occurrences.toNat ∧
    s.readLocation 0x16#6 = s.attentionRecord.info) ∧
  ∀ s : State, PortReady s →
    (s.attention = [] → exec .nextAttention s = .next { withCode s 0x22#8 with result := .empty }) ∧
      ∀ item rest, s.attention = item :: rest →
        ∃ t, exec .nextAttention s = .next t ∧
          (∀ i, t.station i =
            if (s.station i).backlog = true ∧ (s.station i).attentionCapable = true ∧
                ¬ (∃ x, s.exchange = some x ∧ x.kind = .poll ∧ x.owner = .station i) then
              { s.station i with pollDue := true, pollTimer := none }
            else s.station i) ∧
          { t with stations := s.stations } =
            { withCode s 0x22#8 with
              result := .accepted, attention := rest
              attentionRecord :=
                { station := BitVec.ofNat 4 (stationAddress item.station), code := item.code
                  occurrences := BitVec.ofNat 8 item.occurrences, info := item.info } }

/-- NEXT-FAULT latches and removes the oldest record; the dropped count is latched and cleared with the last record,
and is kept, the dropped field reading 0, while records remain; on an empty list it returns EMPTY and changes nothing
else. FAULT A, ADDRESS and B read the record, FAULT STATUS the list's length and the dropped count. -/
def Obligations.NextFaultReportsDropsWithTheLast : Prop :=
  (∀ s : State,
    (s.readLocation 0x17#6).toNat = s.faultRegisters.cause.toNat + 256 * s.faultRegisters.station.toNat ∧
    s.readLocation 0x18#6 = s.faultRegisters.address ∧
    (s.readLocation 0x19#6).toNat = s.faultRegisters.wordsDone.toNat + 256 * s.faultRegisters.dropped.toNat ∧
    (FaultsKept s → (s.readLocation 0x1A#6).toNat = s.faults.length + 256 * s.dropped)) ∧
  ∀ s : State, PortReady s →
    (s.faults = [] → exec .nextFault s = .next { withCode s 0x23#8 with result := .empty }) ∧
      ∀ f rest, s.faults = f :: rest →
        exec .nextFault s =
          .next { withCode s 0x23#8 with
            result := .accepted, faults := rest
            dropped := if rest = [] then 0 else s.dropped
            faultRegisters :=
              { cause := BitVec.ofNat 4 (causeNumber f.cause), station := BitVec.ofNat 4 f.target.address, address := f.address
                wordsDone := BitVec.ofNat 5 f.wordsDone
                dropped := if rest = [] then BitVec.ofNat 8 s.dropped else 0#8 } }

/-- The completion record, the attention record and the fault record registers change only through their own commands
and the resets: no other command changes them, and neither does a step on an empty queue with no waiting access to
take. -/
def Obligations.LatchedRecordsChangeOnlyByTheirCommands : Prop :=
  (∀ s t : State, s.pending = [] → s.portWaiting = [] → step s = .next t →
    t.completion = s.completion ∧ t.attentionRecord = s.attentionRecord ∧ t.faultRegisters = s.faultRegisters) ∧
  ∀ (c : Instr) (s t : State), exec c s = .next t → c.wf = true →
    c ≠ .pinReset → c ≠ .controllerReset →
      (c ≠ .nextCompletion → t.completion = s.completion) ∧
        (c ≠ .nextAttention → t.attentionRecord = s.attentionRecord) ∧
        (c ≠ .nextFault → t.faultRegisters = s.faultRegisters)

/-! ### The link and its stations -/

/-- LINK-START in DOWN makes the link UP with LINK latched when the mask names no station, and otherwise begins the
pass over the named stations in ascending order; the line driver is on. In every other link state it returns BUSY and
changes nothing else. -/
def Obligations.LinkStartReadsTheMask : Prop :=
  ∀ s : State, PortReady s →
    (s.link ≠ .down → exec .linkStart s = .next { withCode s 0x30#8 with result := .busy }) ∧
      (s.link = .down →
        ∃ t, exec .linkStart s = .next t ∧ t.lineDriver = true ∧ t.pass.Pairwise (· < ·) ∧
          (∀ i, i ∈ t.pass ↔ (s.readLocation 0x2D#6).getLsbD (stationAddress i) = true) ∧
          (t.pass = [] →
            t = { withCode s 0x30#8 with
              result := .accepted, link := .up, pass := [], latched := { s.latched with link := true } }) ∧
          (t.pass ≠ [] →
            t = { withCode s 0x30#8 with result := .accepted, link := .enumerating, pass := t.pass }))

/-- The state the end of the drain leaves (R47): every unfinished PORT entry completes LINK-DOWN, in order of
acceptance (R31); every window entry is freed and a held read ends with 0FFFFh, ERROR and LINK-DOWN (R160); every
posted entry is freed with a LINK-DOWN record, in order of acceptance (R108); every station is ABSENT with an empty
queue and its poll bookkeeping stopped; the scheduler's fields are 0; the link is DOWN and LINK is latched; nothing
else changes. -/
def Sys2Proof.Claims.Drained (s t : State) : Prop :=
  ∃ tags : List Tag, ∃ entries : List (PostedIndex × Posted),
    (∀ u r, s.request u = some r → r.origin = .port → Unfinished r →
      t.request u = some { r with state := .done .linkDown }) ∧
    (∀ u r, s.request u = some r → r.origin = .port → ¬ Unfinished r → t.request u = some r) ∧
    (∀ u, (s.request u = none ∨ ∃ r w, s.request u = some r ∧ r.origin = .window w) → t.request u = none) ∧
    tags.Nodup ∧ (∀ u, u ∈ tags ↔ ∃ r, s.request u = some r ∧ r.origin = .port ∧ Unfinished r) ∧
    tags.Pairwise (fun u v =>
      ∀ q r, s.request u = some q → s.request v = some r → q.order ≤ r.order) ∧
    t.completionList = s.completionList ++ tags ∧
    (entries.map Prod.fst).Nodup ∧ (∀ p e, (p, e) ∈ entries ↔ s.postedEntry p = some e) ∧
    entries.Pairwise (fun a b => a.2.order ≤ b.2.order) ∧ (∀ p, t.postedEntry p = none) ∧
    t.faults = recorded s.faults (entries.map fun a => postedRecord a.2 .linkDown) ∧
    t.dropped = dropsCounted s.faults (entries.map fun a => postedRecord a.2 .linkDown) s.dropped ∧
    (∀ i, t.station i =
      { s.station i with
        state := .absent, toggle := false, backlog := false, pollTimer := none, pollDue := false, queue := [] }) ∧
    ((∃ u a n, s.access = some (.read u a n)) →
      t.access = none ∧ t.dataOut = some 0xFFFF#16 ∧
        t.windowStatus = { s.windowStatus with last := .error .linkDown }) ∧
    ((∀ u a n, s.access ≠ some (.read u a n)) →
      t.access = s.access ∧ t.dataOut = s.dataOut ∧ t.windowStatus = s.windowStatus) ∧
    { t with
      requests := s.requests, posted := s.posted, stations := s.stations, completionList := s.completionList,
      faults := s.faults, dropped := s.dropped, access := s.access, dataOut := s.dataOut,
      windowStatus := s.windowStatus } =
      { s with
        link := .down, pass := [], broadcastQueue := [], highPosition := 0, lowPosition := 0, starvation := 0
        latched := { s.latched with link := true } }

/-- The rows by which the exchange in flight can end (R80, R83). -/
def Sys2Proof.Claims.MayEndExchange (c : Instr) : Prop :=
  c = .replyWindowClose ∨ c = .receptionOverrun ∨ c = .broadcastGapEnd ∨ ∃ rc, c = .receptionEnd rc

/-- LINK-STOP returns WRONG-STATE in DOWN and BUSY in DRAINING, changing nothing else; with an exchange in flight it
makes the link DRAINING; with none in flight the drain ends in the same happening, with the whole effect DRAIN_END has
(R47). -/
def Obligations.LinkStopDrainsTheLink : Prop :=
  ∀ s : State, PortReady s →
    (s.link = .down → exec .linkStop s = .next { withCode s 0x31#8 with result := .wrongState }) ∧
      (s.link = .draining → exec .linkStop s = .next { withCode s 0x31#8 with result := .busy }) ∧
      (s.link = .enumerating ∨ s.link = .up →
        (s.exchange ≠ none →
          exec .linkStop s = .next { withCode s 0x31#8 with result := .accepted, link := .draining }) ∧
        (s.exchange = none →
          ∃ t, exec .linkStop s = .next t ∧
            exec .drainEnd { withCode s 0x31#8 with result := .accepted, link := .draining } = .next t ∧
            (FaultsKept s → Drained { withCode s 0x31#8 with result := .accepted, link := .draining } t) ∧
            t.result = .accepted ∧ t.command = 0x31#8 ∧ t.link = .down ∧
            t.latched.link = true ∧ t.lineDriver = false ∧ (∀ i, (t.station i).state = .absent) ∧
            (∀ p, t.postedEntry p = none) ∧ ∀ u r, t.request u = some r → r.origin = .port ∧ ¬ Unfinished r))

/-- The end of the drain finishes all work, as `Drained` says: by DRAIN_END where the link is DRAINING with the engine
IDLE, and at the end of the exchange in flight while the link is DRAINING, when the outcome has been applied as it is
while the link is UP (the statements of the replies and of the LOST transition say how); an attempt that is repeated
does not end the drain. That DRAIN_END acts wherever its condition holds, which the step before it has served in a run
from reset, is DEDUCED (assumption log 4). -/
def Obligations.DrainEndFinishesAllWork : Prop :=
  (∀ s : State, s.link = .draining → s.exchange = none → FaultsKept s →
    ∃ t, exec .drainEnd s = .next t ∧ Drained s t) ∧
  ∀ (s u : State) (c : Instr), s.link = .draining → s.exchange ≠ none → FaultsKept s → MayEndExchange c →
    exec c { s with link := .up } = .next u →
      (u.exchange ≠ none → exec c s = .next { u with link := .draining }) ∧
      (u.exchange = none → ∃ t, exec c s = .next t ∧ Drained { u with link := .draining } t)

/-- STATION-HOLD sets the held field of the station PARAMETER names to YES and STATION-RESUME to NO, in every link and
station state, and repeating either changes nothing further; a parameter outside 1..14 gives BAD-STATION; pin reset
and CONTROLLER-RESET set the field to NO; nothing else changes it, LINK-STOP and the LOST transition included. -/
def Obligations.HeldFieldFollowsHoldAndResume : Prop :=
  (∀ s : State, PortReady s →
    (∀ i, stationAddress i = s.parameter.toNat →
      exec .stationHold s =
          .next ({ withCode s 0x40#8 with result := .accepted }.updateStation i fun st => { st with held := true }) ∧
        exec .stationResume s =
          .next ({ withCode s 0x41#8 with result := .accepted }.updateStation i fun st =>
            { st with held := false })) ∧
    (s.parameter.toNat = 0 ∨ 15 ≤ s.parameter.toNat →
      exec .stationHold s = .next { withCode s 0x40#8 with result := .badStation } ∧
        exec .stationResume s = .next { withCode s 0x41#8 with result := .badStation })) ∧
    (∀ s t : State, exec .pinReset s = .next t ∨ (PortReady s ∧ exec .controllerReset s = .next t) →
      ∀ i, (t.station i).held = false) ∧
    ∀ (c : Instr) (s t : State), exec c s = .next t → c.wf = true →
      c ≠ .stationHold → c ≠ .stationResume → c ≠ .pinReset → c ≠ .controllerReset →
        ∀ i, (t.station i).held = (s.station i).held

/-- A PORT tag that a flush of station `i` completes at once: its entry is QUEUED or WAITING (R29, R49). -/
def Sys2Proof.Claims.flushedTag (s : State) : EntryRef → Option Tag
  | .request u => match s.request u with
    | some r => match r.origin, r.state with
      | .port, .queued => some u
      | .port, .waiting _ => some u
      | _, _ => none
    | none => none
  | .posted _ => none

/-- The record of a posted entry that a flush frees at once: it is not ACTIVE (R106). -/
def Sys2Proof.Claims.flushedRecord (s : State) : EntryRef → Option FaultRecord
  | .request _ => none
  | .posted p => match s.postedEntry p with
    | some e => if e.state = .active then none else some (postedRecord e .cancelled)
    | none => none

/-- A member of a queue that a flush leaves in place: an ACTIVE or PARKED entry (R49). -/
def Sys2Proof.Claims.survivesFlush (s : State) : EntryRef → Bool
  | .request u => match s.request u with
    | some r => match r.state with
      | .active => true
      | .parked _ => true
      | _ => false
    | none => false
  | .posted p => match s.postedEntry p with
    | some e => e.state = .active
    | none => false

/-- STATION-FLUSH treats every unfinished request entry of the station as CANCEL treats a PORT entry, frees every
posted entry of the station that is not ACTIVE with a CANCELLED record, in queue order, and marks an ACTIVE one; it
touches no other station's entries and nothing of the station but its queue. The WINDOW cause of a window entry that
is stale and completes is DEDUCED (assumption log 10). -/
def Obligations.StationFlushEndsUnfinishedWork : Prop :=
  ∀ (s : State) (i : StationId), PortReady s → QueuesExact s → FaultsKept s → stationAddress i = s.parameter.toNat →
    ∃ t, exec .stationFlush s = .next t ∧
      (∀ u, s.request u = none → t.request u = none) ∧
      (∀ u r, s.request u = some r → r.station ≠ i ∨ ¬ Unfinished r → t.request u = some r) ∧
      (∀ u r n, s.request u = some r → r.station = i → r.state = .queued ∨ r.state = .waiting n →
        t.request u = completedRow s.settings r .cancelled) ∧
      (∀ u r, s.request u = some r → r.station = i → r.state = .active →
        t.request u = some { r with cancelPending := true }) ∧
      (∀ u r part, s.request u = some r → r.station = i → r.state = .parked part →
        t.request u =
          some { r with
            cancelPending := true, abandonPending := true, state := .parked { part with collect := .stopped } }) ∧
      (∀ p, s.postedEntry p = none → t.postedEntry p = none) ∧
      (∀ p e, s.postedEntry p = some e → e.target ≠ .station i → t.postedEntry p = some e) ∧
      (∀ p e, s.postedEntry p = some e → e.target = .station i →
        t.postedEntry p = if e.state = .active then some { e with flushPending := true } else none) ∧
      t.station i = { s.station i with queue := (s.station i).queue.filter (survivesFlush s) } ∧
      (∀ j, j ≠ i → t.station j = s.station j) ∧
      t.completionList = s.completionList ++ (s.station i).queue.filterMap (flushedTag s) ∧
      t.faults = recorded s.faults ((s.station i).queue.filterMap (flushedRecord s)) ∧
      t.dropped = dropsCounted s.faults ((s.station i).queue.filterMap (flushedRecord s)) s.dropped ∧
      (t.latched.window = true ↔ s.latched.window = true ∨
        ∃ u r w n, s.request u = some r ∧ r.station = i ∧ r.origin = .window w ∧ w.held = false ∧
          (r.state = .queued ∨ r.state = .waiting n)) ∧
      { t with
        requests := s.requests, posted := s.posted, stations := s.stations, completionList := s.completionList,
        faults := s.faults, dropped := s.dropped } =
        { withCode s 0x42#8 with
          result := .accepted, latched := { s.latched with window := t.latched.window } }

/-- STATION-FLUSH and STATION-REJOIN with a parameter outside 1..14 return BAD-STATION; STATION-REJOIN returns
WRONG-STATE unless the link is UP and the station LOST or ABSENT, and then makes it PROBING; nothing else changes. -/
def Obligations.StationRejoinChecksInOrder : Prop :=
  ∀ s : State, PortReady s →
    (s.parameter.toNat = 0 ∨ 15 ≤ s.parameter.toNat →
      exec .stationFlush s = .next { withCode s 0x42#8 with result := .badStation } ∧
        exec .stationRejoin s = .next { withCode s 0x43#8 with result := .badStation }) ∧
    ∀ i, stationAddress i = s.parameter.toNat →
      (s.link ≠ .up ∨ (s.station i).state = .online ∨ (s.station i).state = .probing →
        exec .stationRejoin s = .next { withCode s 0x43#8 with result := .wrongState }) ∧
      (s.link = .up → (s.station i).state = .lost ∨ (s.station i).state = .absent →
        exec .stationRejoin s =
          .next ({ withCode s 0x43#8 with result := .accepted }.updateStation i fun st =>
            { st with state := .probing }))

/-- A write to COMMAND of a code that names no command, 00h included, stores the code and writes BAD-COMMAND, and
changes nothing else; the fourteen codes of the table are the codes that name a command. COMMAND reads the code last
written and COMMAND RESULT the code of the result, in every state. -/
def Obligations.UnknownCodeIsBadCommand : Prop :=
  (∀ s : State, (s.readLocation 0x03#6).toNat = s.command.toNat ∧
    (s.readLocation 0x04#6).toNat = resultNumber s.result) ∧
  (∀ (s : State) (code : Byte), PortReady s → (Instr.badCommand code).wf = true →
    exec (.badCommand code) s = .next { withCode s code with result := .badCommand }) ∧
    ∀ code : Byte, (Instr.badCommand code).wf = false ↔
      code ∈ [0x10#8, 0x11#8, 0x12#8, 0x20#8, 0x21#8, 0x22#8, 0x23#8, 0x30#8, 0x31#8, 0x40#8, 0x41#8, 0x42#8, 0x43#8,
        0x7E#8]

/-! ### Interrupts, window status and configuration -/

/-- A write to INTERRUPT CAUSE clears each latched cause whose position is one, leaves each whose position is zero,
ignores the positions of the level causes, and changes nothing else. -/
def Obligations.InterruptCauseWriteClearsLatchedOnes : Prop :=
  ∀ (s : State) (v : Word), PortReady s →
    ∃ l, exec (.interruptCauseWrite v) s = .next { s with latched := l } ∧
      (l.station = true ↔ s.latched.station = true ∧ v.getLsbD 8 = false) ∧
      (l.link = true ↔ s.latched.link = true ∧ v.getLsbD 9 = false) ∧
      (l.window = true ↔ s.latched.window = true ∧ v.getLsbD 10 = false)

/-- A write to INTERRUPT ENABLE sets the six enables and nothing else, in every link state; INT is asserted exactly
while some cause is set with its enable ENABLED, where the three level causes stand while their lists are not empty.
INTERRUPT CAUSE reads the six causes, enabled or not, and INTERRUPT ENABLE the enables. -/
def Obligations.IntFollowsCausesAndEnables : Prop :=
  (∀ s : State,
    (s.readLocation 0x1D#6).toNat =
      bitAt 0 (s.completionList ≠ []) + bitAt 1 (s.attention ≠ []) + bitAt 2 (s.faults ≠ [] ∨ 0 < s.dropped) +
        bitAt 8 s.latched.station + bitAt 9 s.latched.link + bitAt 10 s.latched.window ∧
    (s.readLocation 0x1E#6).toNat =
      bitAt 0 s.enables.completion + bitAt 1 s.enables.attention + bitAt 2 s.enables.fault +
        bitAt 8 s.enables.station + bitAt 9 s.enables.link + bitAt 10 s.enables.window) ∧
  (∀ (s : State) (v : Word), PortReady s →
    ∃ e, exec (.interruptEnableWrite v) s = .next { s with enables := e } ∧ e.completion = v.getLsbD 0 ∧
      e.attention = v.getLsbD 1 ∧ e.fault = v.getLsbD 2 ∧ e.station = v.getLsbD 8 ∧ e.link = v.getLsbD 9 ∧
      e.window = v.getLsbD 10) ∧
    ∀ s : State, s.intAsserted = true ↔
      (s.enables.completion = true ∧ s.completionList ≠ []) ∨ (s.enables.attention = true ∧ s.attention ≠ []) ∨
        (s.enables.fault = true ∧ (s.faults ≠ [] ∨ 0 < s.dropped)) ∨
        (s.enables.station = true ∧ s.latched.station = true) ∨ (s.enables.link = true ∧ s.latched.link = true) ∨
        (s.enables.window = true ∧ s.latched.window = true)

/-- A write to WINDOW STATUS clears each sticky flag written with one and leaves the others, the last outcome and the
code, and everything else. WINDOW STATUS reads the last outcome, its code and the three flags, in the codes of R142
and R189. -/
def Obligations.WindowStatusWriteClearsStickyOnes : Prop :=
  (∀ s : State,
    (s.readLocation 0x1F#6).toNat =
      outcomeNumber s.windowStatus.last + 256 * outcomeDetail s.windowStatus.last +
        bitAt 13 s.windowStatus.deferredSeen + bitAt 14 s.windowStatus.discardedSeen +
        bitAt 15 s.windowStatus.droppedSeen) ∧
  ∀ (s : State) (v : Word), PortReady s →
    ∃ w, exec (.windowStatusWrite v) s = .next { s with windowStatus := w } ∧ w.last = s.windowStatus.last ∧
      (w.deferredSeen = true ↔ s.windowStatus.deferredSeen = true ∧ v.getLsbD 13 = false) ∧
      (w.discardedSeen = true ↔ s.windowStatus.discardedSeen = true ∧ v.getLsbD 14 = false) ∧
      (w.droppedSeen = true ↔ s.windowStatus.droppedSeen = true ∧ v.getLsbD 15 = false)

/-- WINDOW STATION takes 1..14 and is otherwise unchanged, PAGE BASE ignores bits 3..0, PREFETCH takes bit 0; each
write that is taken closes the OPEN posted entry, and nothing else changes. -/
def Obligations.WindowConfigurationWritesClose : Prop :=
  ∀ (s : State) (v : Word), PortReady s →
    ((v.toNat % 16 = 0 ∨ v.toNat % 16 = 15) → exec (.windowStationWrite v) s = .next s) ∧
      (∀ i, stationAddress i = v.toNat % 16 →
        ∃ t, exec (.windowStationWrite v) s = .next t ∧ (∀ p, Closed (s.postedEntry p) (t.postedEntry p)) ∧
          { t with posted := s.posted } = { s with settings := { s.settings with windowStation := i } }) ∧
      (∃ t, exec (.pageBaseWrite v) s = .next t ∧ (∀ p, Closed (s.postedEntry p) (t.postedEntry p)) ∧
        t.readLocation 0x21#6 = v &&& 0xFFF0#16 ∧
        { t with posted := s.posted } = { s with settings := { s.settings with pageBase := t.settings.pageBase } }) ∧
      ∃ t, exec (.prefetchWrite v) s = .next t ∧ (∀ p, Closed (s.postedEntry p) (t.postedEntry p)) ∧
        { t with posted := s.posted } = { s with settings := { s.settings with prefetch := v.getLsbD 0 } }

/-- TIMEBASE takes a divisor in 8..32 while the link is DOWN; otherwise the register keeps its value; nothing else
changes. -/
def Obligations.TimebaseTakenOnlyWhileDown : Prop :=
  ∀ (s : State) (v : Word), PortReady s →
    (s.link = .down → 8 ≤ v.toNat % 64 → v.toNat % 64 ≤ 32 →
      exec (.timebaseWrite v) s =
        .next { s with settings := { s.settings with timebaseDivisor := BitVec.ofNat 6 (v.toNat % 64) } }) ∧
      (s.link ≠ .down ∨ v.toNat % 64 < 8 ∨ 32 < v.toNat % 64 → exec (.timebaseWrite v) s = .next s)

/-- Locations whose every assigned bit stores what is written, with the mask of those bits (R6, R184, R188). -/
def Sys2Proof.Claims.storedMasks : List (BitVec 6 × Word) :=
  [(0x05#6, 0xFFFF#16), (0x08#6, 0x071F#16), (0x09#6, 0x1F0F#16), (0x0A#6, 0xFFFF#16), (0x0B#6, 0xFFFF#16),
    (0x0C#6, 0xFFFF#16), (0x0D#6, 0xFFFF#16), (0x0E#6, 0xFFFF#16), (0x2D#6, 0x7FFE#16), (0x2E#6, 0x7FFE#16)]

/-- Locations a write leaves as they are: the read-only ones, DATA PORT and the unassigned one (R184, R24). -/
def Sys2Proof.Claims.readOnly : List (BitVec 6) :=
  [0x00#6, 0x01#6, 0x02#6, 0x04#6, 0x06#6, 0x07#6, 0x10#6, 0x11#6, 0x12#6, 0x13#6, 0x14#6, 0x15#6, 0x16#6, 0x17#6,
    0x18#6, 0x19#6, 0x1A#6, 0x1B#6, 0x1C#6, 0x24#6, 0x25#6, 0x26#6, 0x2F#6]

/-- A register with a range takes an offered value inside it and keeps its value otherwise (R185). -/
def Sys2Proof.Claims.Offered (low high old offer new : Nat) : Prop :=
  (low ≤ offer ∧ offer ≤ high → new = offer) ∧ (¬(low ≤ offer ∧ offer ≤ high) → new = old)

/-- REGISTER_WRITE: a staging field, PARAMETER and the two station masks store the written bits; each register of a
two-part configuration location decides for itself; STATION SELECT takes 1..14; a read-only or unassigned location
ignores the write; nothing else changes. The locations of the register map that no other statement speaks of read live
state. -/
def Obligations.RegisterWriteStoresInRangeFields : Prop :=
  (∀ s : State, LiveReads s ∧ SettingReads s) ∧
  ∀ (s : State) (location : BitVec 6) (v : Word), PortReady s → (Instr.registerWrite location v).wf = true →
    ∃ t, exec (.registerWrite location v) s = .next t ∧
      (location ∈ readOnly → t = s) ∧
      (∀ mask, (location, mask) ∈ storedMasks → t.readLocation location = v &&& mask) ∧
      (∀ other, other ∉ [location, 0x24#6, 0x25#6, 0x26#6] → t.readLocation other = s.readLocation other) ∧
      (location = 0x23#6 →
        (∀ i, stationAddress i = v.toNat % 16 → t = { s with stationSelect := i }) ∧
          (v.toNat % 16 = 0 ∨ v.toNat % 16 = 15 → t = s)) ∧
      (location = 0x28#6 →
        Offered 4 255 s.settings.replyWindow.toNat (v.toNat % 256) t.settings.replyWindow.toNat ∧
          t.settings.bitRate.toNat = v.toNat / 256 % 4 ∧ t.settings.retryLimit.toNat = v.toNat / 4096) ∧
      (location = 0x29#6 →
        t.settings.busyLimit.toNat = v.toNat % 256 ∧
          Offered 1 255 s.settings.busyBackoff.toNat (v.toNat / 256) t.settings.busyBackoff.toNat) ∧
      (location = 0x2A#6 →
        Offered 1 255 s.settings.parkLimit.toNat (v.toNat % 256) t.settings.parkLimit.toNat ∧
          Offered 1 255 s.settings.collectInterval.toNat (v.toNat / 256) t.settings.collectInterval.toNat) ∧
      (location = 0x2B#6 →
        Offered 1 255 s.settings.pollInterval.toNat (v.toNat % 256) t.settings.pollInterval.toNat ∧
          Offered 1 63 s.settings.holdLimit.toNat (v.toNat / 256 % 64) t.settings.holdLimit.toNat) ∧
      (location = 0x2C#6 →
        Offered 1 255 s.settings.discardTime.toNat (v.toNat % 256) t.settings.discardTime.toNat) ∧
      { t with
        staging := { t.staging with data := s.staging.data, overflow := s.staging.overflow }
        settings :=
          { t.settings with
            timebaseDivisor := s.settings.timebaseDivisor, windowStation := s.settings.windowStation
            pageBase := s.settings.pageBase, prefetch := s.settings.prefetch } } = t ∧
      { t with
        parameter := s.parameter, staging := s.staging, settings := s.settings,
        stationSelect := s.stationSelect } = s

/-! ### The direct window -/

/-- An aperture read with a match, the one accepted earliest: the OPEN entry is closed; a DONE SUCCESS entry is a hit
(the word, OK, the front past it, the entry freed at its count); a DONE entry with another status is an error hit
(0FFFFh, ERROR with the status, the entry freed); an entry in progress holds the read with the hold limit then
configured. Nothing else changes. -/
def Obligations.ApertureReadIsAnsweredByItsMatch : Prop :=
  ∀ (s : State) (o : BitVec 4) (u : Tag) (r : Request) (w : WindowPart),
    PortReady s → QueuesExact s → EarliestMatch s u r w (reached s o) →
      ∃ t, exec (.apertureRead o) s = .next t ∧ (∀ p, Closed (s.postedEntry p) (t.postedEntry p)) ∧
        (r.state = .done .success →
          { t with posted := s.posted } =
            { s with
              dataOut := some (r.data.getD ((reached s o).toNat - r.start.toNat) 0#16)
              windowStatus := { s.windowStatus with last := .ok }
              requests := s.requests.set u
                (if (reached s o).toNat - r.start.toNat + 1 = r.count then none
                else
                  some { r with
                    origin := .window { w with
                      front := (reached s o).toNat - r.start.toNat + 1, held := false } }) }) ∧
        (∀ status, r.state = .done status → status ≠ .success →
          { t with posted := s.posted } =
            { s with
              dataOut := some 0xFFFF#16, windowStatus := { s.windowStatus with last := .error status }
              requests := s.requests.set u none }) ∧
        (Unfinished r →
          { t with posted := s.posted } =
            { s with
              access := some (.read u (reached s o) s.settings.holdLimit.toNat)
              requests := s.requests.set u (some { r with origin := .window { w with held := true } }) })

/-- An aperture read without a match is a miss: refused with LINK-NOT-UP, STATION-NOT-ONLINE or, when a reclaim is
needed and no window entry is DONE, TABLE-FULL, each returning 0FFFFh; otherwise, after at most one reclaim of the
DONE window entry accepted earliest, it creates a window entry in the lowest-numbered FREE entry, at the tail of the
window station's queue, and holds the read on it. The OPEN entry is closed in every case. -/
def Obligations.ApertureReadMissIsRefusedOrServed : Prop :=
  ∀ (s : State) (o : BitVec 4), PortReady s → QueuesExact s → (∀ u r w, ¬ Matches s u r w (reached s o)) →
    ∃ t, exec (.apertureRead o) s = .next t ∧ (∀ p, Closed (s.postedEntry p) (t.postedEntry p)) ∧
      (s.link ≠ .up →
        { t with posted := s.posted } =
          { s with
            dataOut := some 0xFFFF#16, windowStatus := { s.windowStatus with last := .refused .linkNotUp } }) ∧
      (s.link = .up → (s.station s.settings.windowStation).state ≠ .online →
        { t with posted := s.posted } =
          { s with
            dataOut := some 0xFFFF#16
            windowStatus := { s.windowStatus with last := .refused .stationNotOnline } }) ∧
      (s.link = .up → (s.station s.settings.windowStation).state = .online →
        (4 ≤ s.windowEntries ∨ (∀ u, s.request u ≠ none)) →
          (∀ u r, s.request u = some r → r.reclaimable = false) →
            { t with posted := s.posted } =
              { s with
                dataOut := some 0xFFFF#16
                windowStatus := { s.windowStatus with last := .refused .tableFull } }) ∧
      (s.link = .up → (s.station s.settings.windowStation).state = .online →
        ∀ free : Vector (Option Request) 16, ∀ discarded : Bool,
          ((4 ≤ s.windowEntries ∨ (∀ u, s.request u ≠ none)) →
            discarded = true ∧
              ∃ v q, s.request v = some q ∧ q.reclaimable = true ∧
                (∀ x y, x ≠ v → s.request x = some y → y.reclaimable = true → q.order < y.order) ∧
                free = s.requests.set v none) →
          (s.windowEntries < 4 → (∃ u, s.request u = none) →
            discarded = s.windowStatus.discardedSeen ∧ free = s.requests) →
            ∃ u : Tag, free[u] = none ∧ (∀ v : Tag, v < u → free[v] ≠ none) ∧
              { t with posted := s.posted } =
                { s with
                  access := some (.read u (reached s o) s.settings.holdLimit.toNat)
                  windowStatus := { s.windowStatus with discardedSeen := discarded }
                  nextOrder := s.nextOrder + 1
                  stations := s.stations.set s.settings.windowStation
                    { s.station s.settings.windowStation with
                      queue := (s.station s.settings.windowStation).queue ++ [.request u] }
                  requests := free.set u
                    (some
                      { origin := .window { front := 0, stale := false, held := true, discard := none }
                        kind := .read
                        station := s.settings.windowStation
                        start := reached s o
                        mode := .increment
                        count := if s.settings.prefetch then 16 - o.toNat else 1
                        data := []
                        wordsDone := 0
                        state := .queued
                        busyCount := 0
                        cancelPending := false
                        abandonPending := false
                        order := s.nextOrder }) })

/-- An aperture write is the first that applies of: dropped, with a WINDOW-WRITE-DROPPED record, when the link is not
UP or the window station not ONLINE; appended to the OPEN entry that it extends; placed in a new OPEN entry, the OPEN
entry closed; held for space, the OPEN entry closed. An append and an opening mark the window entries of the station
stale. -/
def Obligations.ApertureWriteTakesTheFirstCase : Prop :=
  ∀ (s : State) (o : BitVec 4) (v : Word), PortReady s → FaultsKept s → OneOpen s →
    ∃ t, exec (.apertureWrite o v) s = .next t ∧
      (s.link ≠ .up ∨ (s.station s.settings.windowStation).state ≠ .online →
        ∃ f : FaultRecord, f.cause = .windowWriteDropped ∧ f.target = .station s.settings.windowStation ∧
          f.address = reached s o ∧ f.wordsDone = 0 ∧
          t = { s with
            faults := recorded s.faults [f], dropped := dropsCounted s.faults [f] s.dropped
            windowStatus := { s.windowStatus with droppedSeen := true } }) ∧
      (s.link = .up → (s.station s.settings.windowStation).state = .online →
        (∀ p e, s.postedEntry p = some e → e.state = .opened → (reached s o).toNat = e.start.toNat + e.count →
          e.count < 16 → s.poolUsed < 128 →
            (∀ u, Marked (· = s.settings.windowStation) (s.request u) (t.request u)) ∧
              { t with requests := s.requests } =
                { s with
                  posted := s.posted.set p
                    (some { e with
                      data := e.data ++ [v], state := if e.count = 15 then .queued else .opened }) }) ∧
        ((∀ p e, s.postedEntry p = some e → e.state = .opened →
            (reached s o).toNat ≠ e.start.toNat + e.count ∨ 16 ≤ e.count ∨ 128 ≤ s.poolUsed) →
          ((∃ p, s.postedEntry p = none) → s.poolUsed < 128 →
            ∃ p e, s.postedEntry p = none ∧ (∀ q, q < p → s.postedEntry q ≠ none) ∧ t.postedEntry p = some e ∧
              e.origin = .window ∧ e.target = .station s.settings.windowStation ∧ e.start = reached s o ∧
              e.mode = .increment ∧ e.data = [v] ∧ e.wordsDone = 0 ∧ e.state = .opened ∧ e.busyCount = 0 ∧
              e.flushPending = false ∧ e.order = s.nextOrder ∧
              (∀ q, q ≠ p → Closed (s.postedEntry q) (t.postedEntry q)) ∧
              (∀ u, Marked (· = s.settings.windowStation) (s.request u) (t.request u)) ∧
              { t with requests := s.requests, posted := s.posted } =
                { s with
                  nextOrder := s.nextOrder + 1
                  stations := s.stations.set s.settings.windowStation
                    { s.station s.settings.windowStation with
                      queue := (s.station s.settings.windowStation).queue ++ [.posted p] } }) ∧
          ((∀ p, s.postedEntry p ≠ none) ∨ 128 ≤ s.poolUsed →
            (∀ p, Closed (s.postedEntry p) (t.postedEntry p)) ∧
              { t with posted := s.posted } =
                { s with access := some (.write (reached s o) v s.settings.holdLimit.toNat) })))

/-- A held read answered as a hit: the word, OK, the front past it, the entry freed at its count (R144, R149). -/
def Sys2Proof.Claims.readAnswered (s : State) (u : Tag) (r : Request) (w : WindowPart) (a : Word) : State :=
  { s with
    access := none, dataOut := some (r.data.getD (a.toNat - r.start.toNat) 0#16)
    windowStatus := { s.windowStatus with last := .ok }
    requests := s.requests.set u
      (if a.toNat - r.start.toNat + 1 = r.count then none
      else some { r with origin := .window { w with front := a.toNat - r.start.toNat + 1, held := false } }) }

/-- A held read answered as an error hit: 0FFFFh, ERROR with the status, the entry freed (R145, R149). -/
def Sys2Proof.Claims.readFailed (s : State) (u : Tag) (status : Status) : State :=
  { s with
    access := none, dataOut := some 0xFFFF#16, windowStatus := { s.windowStatus with last := .error status }
    requests := s.requests.set u none }

/-- A read hold ends: its expiry returns 0FFFFh as DEFERRED and leaves the entry to go on, not held; its entry being
DONE answers it as a hit or an error hit. The end of an exchange that makes the entry DONE answers the read in the
same happening, after the effect the exchange has without the hold; an exchange that does not leaves the read held.
HELD_READ_ANSWERED does the same wherever the entry is DONE, which is DEDUCED (assumption log 4), as is that the
answer comes from the entry the read is held on (log 22). An expiry acts at any count left (log 3), and each row
changes nothing where its condition does not hold (log 2). -/
def Obligations.ReadHoldEndsDeferredOrAnswered : Prop :=
  (∀ s : State, QueuesExact s →
    ((∀ u a n, s.access ≠ some (.read u a n)) →
      exec .readHoldExpiry s = .next s ∧ exec .heldReadAnswered s = .next s) ∧
    ∀ u a n r w, s.access = some (.read u a n) → s.request u = some r → r.origin = .window w →
      exec .readHoldExpiry s =
        .next { s with
          access := none, dataOut := some 0xFFFF#16
          windowStatus := { s.windowStatus with last := .deferred, deferredSeen := true }
          requests := s.requests.set u (some { r with origin := .window { w with held := false } }) } ∧
      (Unfinished r → exec .heldReadAnswered s = .next s) ∧
      (r.state = .done .success → exec .heldReadAnswered s = .next (readAnswered s u r w a)) ∧
      (∀ status, r.state = .done status → status ≠ .success →
        exec .heldReadAnswered s = .next (readFailed s u status))) ∧
  ∀ (s m : State) (c : Instr) (u : Tag) (a : Word) (n : Nat), QueuesExact s → s.link ≠ .draining →
    MayEndExchange c → s.exchange ≠ none → s.access = some (.read u a n) →
    exec c { s with access := none } = .next m →
      (m.exchange ≠ none ∨ (∀ r status, m.request u = some r → r.state ≠ .done status) →
        exec c s = .next { m with access := s.access }) ∧
      (m.exchange = none → ∀ r w, m.request u = some r → r.origin = .window w →
        (r.state = .done .success → exec c s = .next (readAnswered m u r w a)) ∧
        ∀ status, r.state = .done status → status ≠ .success → exec c s = .next (readFailed m u status))

/-- The record of a dropped aperture write (R159). -/
def Sys2Proof.Claims.dropRecord (s : State) (a : Word) : FaultRecord where
  cause := .windowWriteDropped
  target := .station s.settings.windowStation
  address := a
  wordsDone := 0

/-- A held write dropped, with its record and dropped-write-seen (R157, R159). -/
def Sys2Proof.Claims.writeDropped (s : State) (a : Word) : State :=
  { s with
    access := none, faults := recorded s.faults [dropRecord s a]
    dropped := dropsCounted s.faults [dropRecord s a] s.dropped
    windowStatus := { s.windowStatus with droppedSeen := true } }

/-- A held write accepted: the lowest-numbered FREE posted entry is opened for its word at the tail of the window
station's queue, and the window entries of the station are marked stale (R155, R157, R114). -/
def Sys2Proof.Claims.WriteOpened (s : State) (a v : Word) (t : State) : Prop :=
  ∃ p e, s.postedEntry p = none ∧ (∀ q, q < p → s.postedEntry q ≠ none) ∧ t.postedEntry p = some e ∧
    e.origin = .window ∧ e.target = .station s.settings.windowStation ∧ e.start = a ∧ e.mode = .increment ∧
    e.data = [v] ∧ e.wordsDone = 0 ∧ e.state = .opened ∧ e.busyCount = 0 ∧ e.flushPending = false ∧
    e.order = s.nextOrder ∧ (∀ q, q ≠ p → Closed (s.postedEntry q) (t.postedEntry q)) ∧
    (∀ u, Marked (· = s.settings.windowStation) (s.request u) (t.request u)) ∧
    { t with requests := s.requests, posted := s.posted } =
      { s with
        access := none, nextOrder := s.nextOrder + 1
        stations := s.stations.set s.settings.windowStation
          { s.station s.settings.windowStation with
            queue := (s.station s.settings.windowStation).queue ++ [.posted p] } }

/-- There is posted space: a FREE posted entry and a free pool word (R157). -/
def Sys2Proof.Claims.Space (s : State) : Prop := (∃ p, s.postedEntry p = none) ∧ s.poolUsed < 128

/-- The window station is ONLINE. -/
def Sys2Proof.Claims.WindowOnline (s : State) : Prop := (s.station s.settings.windowStation).state = .online

/-- A write hold ends: its expiry, and its station no longer ONLINE, drop the write with its record; space opens an
entry for its word when the station is ONLINE and drops it otherwise. The end of an exchange does so in the same
happening, after the effect the exchange has without the hold, the record of a drop coming after every record the
exchange made; where there is neither a loss nor space the write stays held. The rows HELD_WRITE_SPACE and
HELD_WRITE_STATION_LOST do the same wherever their condition holds, which is DEDUCED (assumption log 4), and the
former closes an OPEN entry, of which none stands during a hold (log 24). An expiry acts at any count left (log 3),
and each row changes nothing where its condition does not hold (log 2). -/
def Obligations.WriteHoldEndsDroppedOrAccepted : Prop :=
  (∀ s : State, FaultsKept s →
    ((∀ a v n, s.access ≠ some (.write a v n)) →
      exec .writeHoldExpiry s = .next s ∧ exec .heldWriteSpace s = .next s ∧
        exec .heldWriteStationLost s = .next s) ∧
    ∀ a v n, s.access = some (.write a v n) →
      exec .writeHoldExpiry s = .next (writeDropped s a) ∧
      (WindowOnline s → exec .heldWriteStationLost s = .next s) ∧
      (¬ WindowOnline s → exec .heldWriteStationLost s = .next (writeDropped s a)) ∧
      (¬ Space s → exec .heldWriteSpace s = .next s) ∧
      (Space s → ¬ WindowOnline s → exec .heldWriteSpace s = .next (writeDropped s a)) ∧
      (Space s → WindowOnline s → ∃ t, exec .heldWriteSpace s = .next t ∧ WriteOpened s a v t)) ∧
  ∀ (s m : State) (c : Instr) (a v : Word) (n : Nat), FaultsKept s → s.link ≠ .draining →
    MayEndExchange c → s.exchange ≠ none → s.access = some (.write a v n) →
    exec c { s with access := none } = .next m →
      (m.exchange ≠ none ∨ (WindowOnline m ∧ ¬ Space m) → exec c s = .next { m with access := s.access }) ∧
      (m.exchange = none → ¬ WindowOnline m → exec c s = .next (writeDropped m a)) ∧
      (m.exchange = none → WindowOnline m → Space m → ∃ t, exec c s = .next t ∧ WriteOpened m a v t)

/-! ### Timers -/

/-- The expiries of the timers of entries: a busy backoff makes its entry QUEUED, a collect timer becomes expired, a
park timer sets abandon pending and stops the collect timer, a discard timer frees its DONE window entry and sets
discarded-seen. A poll timer makes the poll of its attention-capable station due and stops. Each changes nothing else,
and nothing at all where its timer does not run. An expiry acts at any count left (assumption log 3), and where its
timer does not run it changes nothing (log 2): both are the model's choices. -/
def Obligations.TimersExpireInTheirState : Prop :=
  (∀ (s : State) (i : StationId),
    ((s.station i).pollTimer = none → exec (.pollTimerExpiry i) s = .next s) ∧
      ((s.station i).pollTimer ≠ none →
        exec (.pollTimerExpiry i) s =
          .next { s with
            stations := s.stations.set i
              { s.station i with
                pollTimer := none
                pollDue := (s.station i).pollDue || (s.station i).attentionCapable } })) ∧
  ∀ (s : State) (u : Tag),
    (backoffLeft (s.request u) = none → exec (.busyBackoffExpiry (.request u)) s = .next s) ∧
    (collectLeft (s.request u) = none → exec (.collectTimerExpiry u) s = .next s) ∧
    (parkLeft (s.request u) = none → exec (.parkTimerExpiry u) s = .next s) ∧
    ((∀ r status, s.request u = some r → r.state = .done status → discardLeft (some r) = none) →
      exec (.discardTimerExpiry u) s = .next s) ∧
    (∀ r n, s.request u = some r → r.state = .waiting n →
      exec (.busyBackoffExpiry (.request u)) s =
        .next { s with requests := s.requests.set u (some { r with state := .queued }) }) ∧
    (∀ r part n, s.request u = some r → r.state = .parked part → part.collect = .running n →
      exec (.collectTimerExpiry u) s =
        .next { s with
          requests := s.requests.set u (some { r with state := .parked { part with collect := .expired } }) }) ∧
    (∀ r part n, s.request u = some r → r.state = .parked part → part.park = some n →
      exec (.parkTimerExpiry u) s =
        .next { s with
          requests := s.requests.set u
            (some { r with
              abandonPending := true, state := .parked { part with park := none, collect := .stopped } }) }) ∧
    (∀ r w n status, QueuesExact s → s.request u = some r → r.origin = .window w → w.discard = some n →
      r.state = .done status →
        exec (.discardTimerExpiry u) s =
          .next { s with
            requests := s.requests.set u none
            windowStatus := { s.windowStatus with discardedSeen := true } }) ∧
    ∀ p, (postedBackoffLeft (s.postedEntry p) = none → exec (.busyBackoffExpiry (.posted p)) s = .next s) ∧
      ∀ e n, s.postedEntry p = some e → e.state = .waiting n →
        exec (.busyBackoffExpiry (.posted p)) s =
          .next { s with posted := s.posted.set p (some { e with state := .queued }) }


/-! ### The link scheduler -/

/-- A GRANT goes, by the starvation guard, to one tier and there to the first eligible member after the tier's
position; the position and the count become as R94 to R96 say, and an exchange begins. Without an eligible member, or
while the engine is not IDLE, the link not UP or HOLD asserted, nothing changes. -/
def Obligations.GrantFollowsTiersAndPositions : Prop :=
  ∀ s : State, SchedulerKept s → QueuesExact s →
    (s.exchange ≠ none ∨ s.link ≠ .up ∨ s.holdInput = true → exec .grant s = .next s) ∧
    (NoneEligible s.eligibleHigh 15 → NoneEligible s.eligibleLow 14 → exec .grant s = .next s) ∧
    (s.exchange = none → s.link = .up → s.holdInput = false →
      (∀ n, FirstAfter s.eligibleHigh 15 s.highPosition n →
        (¬ NoneEligible s.eligibleLow 14 → s.starvation < 8 →
          ∃ t x, exec .grant s = .next t ∧ t.exchange = some x ∧ x.destination.address = n ∧
            t.highPosition = n ∧ t.lowPosition = s.lowPosition ∧ t.starvation = s.starvation + 1) ∧
        (NoneEligible s.eligibleLow 14 →
          ∃ t x, exec .grant s = .next t ∧ t.exchange = some x ∧ x.destination.address = n ∧
            t.highPosition = n ∧ t.lowPosition = s.lowPosition ∧ t.starvation = 0)) ∧
      ∀ n, FirstAfter s.eligibleLow 14 s.lowPosition n →
        (NoneEligible s.eligibleHigh 15 ∨ 8 ≤ s.starvation) →
          ∃ t x, exec .grant s = .next t ∧ t.exchange = some x ∧ x.destination.address = n ∧
            t.highPosition = s.highPosition ∧ t.lowPosition = n ∧ t.starvation = 0)

/-- What makes a station eligible, and which candidate a grant takes: not held; PROBING with its IDENTIFY, or ONLINE
with, in this order, the ABANDON or COLLECT of a PARKED head, the write phase of a MODIFY, a due POLL, the next
segment or phase of the head when no earlier broadcast bars it. The broadcast queue is eligible when its head is held
back by no earlier entry that is QUEUED, ACTIVE, WAITING or OPEN. -/
def Obligations.CandidatesFollowTheOrderOfPreference : Prop :=
  (∀ (s : State) (i : StationId), s.eligible i = true ↔ (s.station i).held = false ∧ s.candidate i ≠ none) ∧
    (∀ (s : State) (i : StationId),
      ((s.station i).state = .probing → s.candidate i = some .identify) ∧
      ((s.station i).state = .absent ∨ (s.station i).state = .lost → s.candidate i = none) ∧
      ((s.station i).state = .online →
        (∀ rest, (s.station i).queue = rest → rest = [] → s.candidate i =
          if (s.station i).attentionCapable = true ∧ (s.station i).pollDue = true then some .poll else none) ∧
        (∀ u rest r, (s.station i).queue = .request u :: rest → s.request u = some r →
          let due := (s.station i).attentionCapable = true ∧ (s.station i).pollDue = true
          let writing := ∃ m, r.kind = .modify m ∧ m.phase = .write
          let barred := ∃ p e, p ∈ s.broadcastQueue ∧ s.postedEntry p = some e ∧ e.order < r.order
          (∀ part, r.state = .parked part → r.abandonPending = true → s.candidate i = some (.abandon u)) ∧
          (∀ part, r.state = .parked part → r.abandonPending = false → part.collect = .expired →
            s.candidate i = some (.collect u)) ∧
          (r.state = .queued → writing → s.candidate i = some (.modifyWrite u)) ∧
          (∀ part, r.state = .parked part → r.abandonPending = false → part.collect ≠ .expired → ¬ writing →
            (due → s.candidate i = some .poll) ∧ (¬ due → s.candidate i = none)) ∧
          (∀ n, r.state = .waiting n → writing → s.candidate i = none) ∧
          (r.state = .queued → ¬ writing → due → s.candidate i = some .poll) ∧
          (r.state = .queued → ¬ writing → ¬ due → ¬ barred → s.candidate i = some (.requestSegment u)) ∧
          (r.state = .queued → ¬ writing → ¬ due → barred → s.candidate i = none) ∧
          (∀ n, r.state = .waiting n → ¬ writing → due → s.candidate i = some .poll) ∧
          (∀ n, r.state = .waiting n → ¬ writing → ¬ due → s.candidate i = none)) ∧
        (∀ p rest e, (s.station i).queue = .posted p :: rest → s.postedEntry p = some e →
          let due := (s.station i).attentionCapable = true ∧ (s.station i).pollDue = true
          let barred := ∃ q f, q ∈ s.broadcastQueue ∧ s.postedEntry q = some f ∧ f.order < e.order
          (due → s.candidate i = some .poll) ∧
          (e.state = .queued ∨ e.state = .opened → ¬ due → ¬ barred → s.candidate i = some (.postedSegment p)) ∧
          (e.state = .queued ∨ e.state = .opened → ¬ due → barred → s.candidate i = none) ∧
          (∀ n, e.state = .waiting n → ¬ due → s.candidate i = none)))) ∧
    ∀ s : State, s.eligibleHigh 15 = true ↔
      ∃ p rest e, s.broadcastQueue = p :: rest ∧ s.postedEntry p = some e ∧
        (∀ u r, s.request u = some r → r.order < e.order →
          r.state ≠ .queued ∧ r.state ≠ .active ∧ ∀ n, r.state ≠ .waiting n) ∧
        ∀ q f i, s.postedEntry q = some f → f.target = .station i → e.order ≤ f.order

/-- The exchange a grant begins for the next segment or phase of a request entry: its kind, its frame word for word,
its owner ACTIVE. READ and CONFIRMED WRITE segments are at most max burst words from the address reached, MODIFY
phases one word with NOPARK and INCR; TOGGLE is the station's. -/
def Obligations.GrantFormsARequestSegment : Prop :=
  ∀ (s : State) (i : StationId) (low : Bool) (count : Nat) (u : Tag) (rest : List EntryRef) (r : Request),
    Chosen s (stationAddress i) low count → (s.station i).state = .online →
      (s.station i).queue = .request u :: rest → s.request u = some r → r.station = i → r.state = .queued →
      ((s.station i).pollDue = false ∨ ∃ m, r.kind = .modify m ∧ m.phase = .write) →
        let st := s.station i
        let n := min st.maxBurst (r.count - r.wordsDone)
        let incr : Bool := r.mode = .increment
        let at' := addressAt r.mode r.start r.wordsDone
        let next := fun (kind : ExchangeKind) (words : List Word) => Host.Outcome.next (φ := Fault) (ρ := Refusal)
          { granted s (stationAddress i) low count with
            requests := s.requests.set u (some { r with state := .active })
            exchange := some (begun s kind (.request u) (.station i) words) }
        (r.kind = .read →
          exec .grant s = next .readSegment
            [header (stationAddress i) 0x1 st.toggle (!st.parkCapable) incr, at', BitVec.ofNat 16 n]) ∧
        (r.kind = .confirmedWrite →
          exec .grant s = next .writeSegment
            ([header (stationAddress i) 0x2 st.toggle (!st.parkCapable) incr, at',
              BitVec.ofNat 16 ((r.data.drop r.wordsDone).take n).length] ++
              (r.data.drop r.wordsDone).take n)) ∧
        ∀ m, r.kind = .modify m →
          (m.phase = .read →
            exec .grant s = next .modifyRead [header (stationAddress i) 0x1 st.toggle true true, r.start, 1#16]) ∧
          ∀ old, m.phase = .write → m.oldValue = some old →
            exec .grant s = next .modifyWrite
              [header (stationAddress i) 0x2 st.toggle true true, r.start, 1#16,
                (old &&& ~~~m.writeMask) ||| (m.newValue &&& m.writeMask)]

/-- The exchange a grant begins for other work: a posted segment with NOPARK, its entry ACTIVE (and no longer OPEN); a
POLL with the last accepted sequence, the poll no longer due; a COLLECT, its timer stopped; an ABANDON; an IDENTIFY;
the BROADCAST of the whole head of the broadcast queue. -/
def Obligations.GrantFormsOtherFrames : Prop :=
  (∀ (s : State) (i : StationId) (low : Bool) (count : Nat), Chosen s (stationAddress i) low count →
    let st := s.station i
    let g := granted s (stationAddress i) low count
    (st.state = .probing →
      exec .grant s =
        .next { g with
          exchange := some
            (begun s .identify (.station i) (.station i) [header (stationAddress i) 0x6 false false false]) }) ∧
    (st.state = .online → s.candidate i = some .poll →
      exec .grant s =
        .next { g with
          stations := s.stations.set i { st with pollDue := false, pollTimer := none }
          exchange := some
            (begun s .poll (.station i) (.station i)
              [header (stationAddress i) 0x3 false false false, 0#8 ++ st.lastSequence]) }) ∧
    (∀ u rest r part, st.state = .online → st.queue = .request u :: rest → s.request u = some r →
      r.state = .parked part →
        (r.abandonPending = true →
          exec .grant s =
            .next { g with
              exchange := some
                (begun s .abandon (.request u) (.station i)
                  [header (stationAddress i) 0x5 false false false]) }) ∧
        (r.abandonPending = false → part.collect = .expired →
          exec .grant s =
            .next { g with
              requests := s.requests.set u (some { r with state := .parked { part with collect := .stopped } })
              exchange := some
                (begun s .collect (.request u) (.station i)
                  [header (stationAddress i) 0x4 false false false]) })) ∧
    (∀ p rest e, st.state = .online → st.queue = .posted p :: rest → s.postedEntry p = some e →
      s.candidate i = some (.postedSegment p) →
        let data := (e.data.drop e.wordsDone).take (min st.maxBurst (e.data.length - e.wordsDone))
        exec .grant s =
          .next { g with
            posted := s.posted.set p (some { e with state := .active })
            exchange := some
              (begun s .writeSegment (.posted p) (.station i)
                ([header (stationAddress i) 0x2 st.toggle true (e.mode = .increment),
                  addressAt e.mode e.start e.wordsDone, BitVec.ofNat 16 data.length] ++ data)) })) ∧
    ∀ (s : State) (count : Nat) (p : PostedIndex) (rest : List PostedIndex) (e : Posted), Chosen s 15 false count →
      s.broadcastQueue = p :: rest → s.postedEntry p = some e →
        exec .grant s =
          .next { granted s 15 false count with
            posted := s.posted.set p (some { e with state := .active })
            exchange := some
              (begun s .broadcast (.posted p) .broadcast
                ([header 15 0x7 false false (e.mode = .increment), e.start, BitVec.ofNat 16 e.data.length] ++
                  e.data)) }

/-- The enumeration pass starts the IDENTIFY of its next station, held or not, when the engine is IDLE and HOLD is not
asserted: the station becomes PROBING. Otherwise nothing changes. The scheduler's fields are not used. -/
def Obligations.PassStartsTheNextIdentify : Prop :=
  ∀ s : State,
    (s.link ≠ .enumerating ∨ s.exchange ≠ none ∨ s.holdInput = true ∨ s.pass = [] →
      exec .enumerationIdentifyStart s = .next s) ∧
    ∀ i rest, s.link = .enumerating → s.exchange = none → s.holdInput = false → s.pass = i :: rest →
      exec .enumerationIdentifyStart s =
        .next { s with
          stations := s.stations.set i { s.station i with state := .probing }
          exchange := some
            (begun s .identify (.station i) (.station i) [header (stationAddress i) 0x6 false false false]) }

/-! ### The exchange engine -/

/-- The events on the pair before a reply move the phase of the exchange in flight and nothing else: a frame begins at
the bit rate configured (by the quiet pair or over an active one), its last bit opens the reply window or the gap with
the time configured, the first transition in the window begins a reception. In any other phase they change nothing; a
frame on the pair while no reply is awaited never does. That an event in another phase changes nothing is the model's
choice (assumption log 2). -/
def Obligations.PairEventsMoveThePhase : Prop :=
  ∀ (s : State) (rc : Reception),
    exec (.discardedFrame rc) s = .next s ∧
    (s.exchange = none →
      exec .frameBegin s = .next s ∧ exec .pairActiveTimeout s = .next s ∧ exec .frameSent s = .next s ∧
        exec .broadcastFrameSent s = .next s ∧ exec .receptionBegin s = .next s) ∧
    ∀ x, s.exchange = some x →
      let moved := fun (phase : EnginePhase) => Host.Outcome.next (φ := Fault) (ρ := Refusal)
        { s with exchange := some { x with phase := phase } }
      (∀ n, x.phase = .pairWait n →
        exec .frameBegin s = moved (.sending s.settings.bitRate) ∧
          exec .pairActiveTimeout s = moved (.sending s.settings.bitRate)) ∧
      ((∀ n, x.phase ≠ .pairWait n) → exec .frameBegin s = .next s ∧ exec .pairActiveTimeout s = .next s) ∧
      (∀ rate, x.phase = .sending rate →
        (x.kind ≠ .broadcast →
          exec .frameSent s = moved (.window s.settings.replyWindow.toNat) ∧
            exec .broadcastFrameSent s = .next s) ∧
        (x.kind = .broadcast →
          exec .broadcastFrameSent s = moved (.gap s.settings.replyWindow.toNat) ∧ exec .frameSent s = .next s)) ∧
      ((∀ rate, x.phase ≠ .sending rate) → exec .frameSent s = .next s ∧ exec .broadcastFrameSent s = .next s) ∧
      (∀ n, x.phase = .window n → exec .receptionBegin s = moved (.receiving s.settings.bitRate)) ∧
      ((∀ n, x.phase ≠ .window n) → exec .receptionBegin s = .next s)

/-- A silent or bad attempt with attempts remaining begins the next one with the same frame and changes no state
outside the exchange record; without an exchange in the phase each row is for, nothing changes. That a row without its
phase changes nothing is the model's choice (assumption log 2); the wait of the next attempt is DEDUCED (log 15). -/
def Obligations.AttemptWithoutReplyIsRepeated : Prop :=
  ∀ (s : State) (rc : Reception),
    ((∀ x n, s.exchange = some x → x.phase ≠ .window n) → exec .replyWindowClose s = .next s) ∧
    ((∀ x rate, s.exchange = some x → x.phase ≠ .receiving rate) →
      exec .receptionOverrun s = .next s ∧ exec (.receptionEnd rc) s = .next s) ∧
    ∀ x, s.exchange = some x → x.attempt < x.limit →
      let again := Host.Outcome.next (φ := Fault) (ρ := Refusal)
        { s with
          exchange := some
            { x with attempt := x.attempt + 1, phase := .pairWait s.settings.replyWindow.toNat } }
      (∀ n, x.phase = .window n → exec .replyWindowClose s = again) ∧
      ∀ rate, x.phase = .receiving rate →
        exec .receptionOverrun s = again ∧ (s.judgement x rc = none → exec (.receptionEnd rc) s = again)

/-- The rows by which an exchange can end FAILED at its last attempt (R79, R80). -/
def Sys2Proof.Claims.EndsFailed (s : State) (x : Exchange) : Instr → Prop
  | .replyWindowClose => ∃ n, x.phase = .window n
  | .receptionOverrun => ∃ rate, x.phase = .receiving rate
  | .receptionEnd rc => (∃ rate, x.phase = .receiving rate) ∧ s.judgement x rc = none
  | _ => False

/-- The row of the member of a lost station's queue, given the status it completes with (R30, R38). -/
def Sys2Proof.Claims.lostRow (s : State) (owner : Owner) (u : Tag) (r : Request) : Option Request :=
  if owner = .request u then
    completedRow s.settings
      { r with
        kind := match r.kind with
          | .modify m =>
            .modify { m with
              failedPhase := some m.phase
              written := if m.phase = .write then .unknown else m.written }
          | k => k }
      .noResponse
  else completedRow s.settings r .stationLost

/-- The members of a queue in the order the LOST transition takes them: the owner of the failed exchange first (R38). -/
def Sys2Proof.Claims.lostOrder (owner : Owner) (queue : List EntryRef) : List EntryRef :=
  match owner with
  | .request u => if .request u ∈ queue then .request u :: queue.erase (.request u) else queue
  | .posted p => if .posted p ∈ queue then .posted p :: queue.erase (.posted p) else queue
  | .station _ => queue

/-- The record the LOST transition makes for a member of the queue, if it is a posted entry (R107). -/
def Sys2Proof.Claims.lostRecord (s : State) (owner : Owner) : EntryRef → Option FaultRecord
  | .request _ => none
  | .posted p => (s.postedEntry p).map fun e =>
      postedRecord e (if owner = .posted p then .noResponse else .stationLost)

/-- The tag the LOST transition appends for a member of the queue, if it is a PORT entry (R30). -/
def Sys2Proof.Claims.lostTag (s : State) : EntryRef → Option Tag
  | .request u => match s.request u with
    | some r => if r.origin = .port then some u else none
    | none => none
  | .posted _ => none

/-- An exchange that ends FAILED at its last attempt makes its station LOST: the owner completes first with
NO-RESPONSE, every other member of its queue with STATION-LOST in queue order, posted entries with their records; the
queue is empty, the toggle 0, the poll bookkeeping stopped, STATION latched; other stations' entries are not touched.
That a stale member of the queue which did not own the exchange latches WINDOW is DEDUCED (assumption log 10). While
the link is DRAINING, or an access is held, DrainEndFinishesAllWork and the two statements of the holds say what
follows. -/
def Obligations.FailedExchangeLosesItsStation : Prop :=
  ∀ (s : State) (x : Exchange) (i : StationId) (c : Instr), Quiet s → QueuesExact s → FaultsKept s →
    s.exchange = some x → x.destination = .station i → x.limit ≤ x.attempt → EndsFailed s x c →
    (∀ u, x.owner = .request u → .request u ∈ (s.station i).queue) →
    (∀ p, x.owner = .posted p → .posted p ∈ (s.station i).queue) →
      ∃ t, exec c s = .next t ∧
        (∀ u r, s.request u = some r → r.station = i → Unfinished r → t.request u = lostRow s x.owner u r) ∧
        (∀ u, (∀ r, s.request u = some r → r.station ≠ i ∨ ¬ Unfinished r) → t.request u = s.request u) ∧
        (∀ p, t.postedEntry p =
          (s.postedEntry p).bind fun e => if e.target = .station i then none else some e) ∧
        t.completionList =
          s.completionList ++ (lostOrder x.owner (s.station i).queue).filterMap (lostTag s) ∧
        t.faults =
          recorded s.faults ((lostOrder x.owner (s.station i).queue).filterMap (lostRecord s x.owner)) ∧
        t.dropped =
          dropsCounted s.faults ((lostOrder x.owner (s.station i).queue).filterMap (lostRecord s x.owner))
            s.dropped ∧
        t.station i =
          { s.station i with
            state := .lost, toggle := false, pollTimer := none, pollDue := false, backlog := false, queue := [] } ∧
        (∀ j, j ≠ i → t.station j = s.station j) ∧
        (t.latched.window = true ↔ s.latched.window = true ∨
          ∃ u r w, s.request u = some r ∧ r.station = i ∧ Unfinished r ∧ r.origin = .window w ∧ w.held = false ∧
            ¬ (x.owner = .request u ∧ w.stale = true)) ∧
        { t with
          requests := s.requests, posted := s.posted, stations := s.stations, completionList := s.completionList,
          faults := s.faults, dropped := s.dropped } =
          { s with
            exchange := none, latched := { s.latched with station := true, window := t.latched.window } }

/-- The five tests of R72 on a reception that began in the reply window: it is judged valid with a reply exactly when
it is well framed, its CRC is good, it comes from the station the frame was sent to and is addressed to the 3120, its
type is one the exchange kind accepts, and its words carry that reply consistently. -/
def Obligations.ReplyIsValidExactlyByTheFiveTests : Prop :=
  ∀ (kind : ExchangeKind) (parkable parkedWrite : Bool) (source : Nat) (e : Expected) (rc : Reception)
    (reply : Reply), source < 16 → e.count < 65536 →
    (judge kind parkable parkedWrite source e rc = some reply ↔
      rc.delimiterGood = true ∧ rc.codingGood = true ∧ rc.extraBits = 0 ∧ 2 ≤ rc.words.length ∧
        rc.words.length ≤ 20 ∧
        ∃ (head : Word) (body : List Word), rc.words = closed (head :: body) ∧ head.toNat / 4096 = 0 ∧
          head.toNat / 256 % 16 = source ∧ head.toNat / 16 % 16 = typeCode reply ∧
          typeCode reply ∈ acceptable kind parkable parkedWrite ∧ Carries e head body reply)

/-- A reception that differs from a frame with a good CRC in exactly one of its words is judged bad, whatever the
exchange: the CRC register is a bijection of each word and of the register it starts from. -/
def Obligations.OneCorruptedWordIsNeverAccepted : Prop :=
  ∀ (words : List Word) (k : Nat) (w : Word) (rc : Reception) (kind : ExchangeKind) (parkable parkedWrite : Bool)
    (source : Nat) (e : Expected),
    k < (closed words).length → (closed words)[k]? ≠ some w → rc.words = (closed words).set k w →
      judge kind parkable parkedWrite source e rc = none

/-! ### What a reply does -/

/-- A busy count after one more NAK BUSY: it saturates at 255 (R87). -/
def Sys2Proof.Claims.busier (count : Nat) : Nat := min 255 (count + 1)

/-- A busy count has reached the busy limit; a limit of 0 is no limit (R87). -/
def Sys2Proof.Claims.LimitReached (g : Settings) (count : Nat) : Prop :=
  g.busyLimit ≠ 0#8 ∧ g.busyLimit.toNat ≤ count

/-- The engine IDLE and nothing else changed: the reply is to a frame that is not toggled (R80, R81). -/
def Sys2Proof.Claims.idle (s : State) : State := { s with exchange := none }

/-- A request entry with the words of a finished segment taken (R18): a READ's words go to positions words done
onward, words done rises by the segment's length, and the busy count returns to 0. -/
def Sys2Proof.Claims.segmentTaken (r : Request) (length : Nat) (words : List Word) : Request :=
  { r with
    data := if r.kind = .read then r.data.take r.wordsDone ++ words else r.data
    wordsDone := r.wordsDone + length
    busyCount := 0 }

/-- What the end of a segment of `length` words does, in a state where the engine is IDLE again (R18): the request
completes SUCCESS at its count, is CANCELLED if cancel pending is set, and otherwise is QUEUED for its next segment.
-/
def Sys2Proof.Claims.AfterSegment (a : State) (u : Tag) (r : Request) (length : Nat) (words : List Word)
    (outcome : Host.Outcome State Fault Refusal) : Prop :=
  (r.wordsDone + length = r.count → outcome = .next (completed a u (segmentTaken r length words) .success)) ∧
    (r.wordsDone + length ≠ r.count → r.cancelPending = true →
      outcome = .next (completed a u (segmentTaken r length words) .cancelled)) ∧
    (r.wordsDone + length ≠ r.count → r.cancelPending = false →
      outcome =
        .next { a with
          requests := a.requests.set u
            (some { segmentTaken r length words with state := .queued, abandonPending := false }) })

/-- What a NAK to a segment or phase does, in a state where the engine is IDLE again (R19, R87, R123): BUSY counts,
and ends the request at the busy limit or under cancel pending, or makes it WAITING; REJECT and FAULT end it.
`failing` is the entry as it completes when the NAK itself ends it. -/
def Sys2Proof.Claims.AfterNak (a : State) (u : Tag) (r : Request) (failing : Request → Request) (reason : NakReason)
    (outcome : Host.Outcome State Fault Refusal) : Prop :=
  (reason = .reject → outcome = .next (completed a u (failing r) .rejected)) ∧
    (reason = .fault → outcome = .next (completed a u (failing r) .stationFault)) ∧
    (reason = .busy →
      let counted := { r with busyCount := busier r.busyCount }
      (LimitReached a.settings (busier r.busyCount) →
        outcome = .next (completed a u (failing counted) .busyLimit)) ∧
      (¬ LimitReached a.settings (busier r.busyCount) → r.cancelPending = true →
        outcome = .next (completed a u counted .cancelled)) ∧
      (¬ LimitReached a.settings (busier r.busyCount) → r.cancelPending = false →
        outcome =
          .next { a with
            requests := a.requests.set u
              (some { counted with state := .waiting (16 * a.settings.busyBackoff.toNat) }) }))

/-- A DATA or ACK to a segment of an ACTIVE request flips the toggle, takes the segment's words and completes, cancels
or requeues the request; a NAK ends it or makes it WAITING. Nothing else changes. -/
def Obligations.SegmentReplyAdvancesOrEndsTheRequest : Prop :=
  ∀ (s : State) (x : Exchange) (rc : Reception) (u : Tag) (r : Request) (reply : Reply),
    Quiet s → Receives s x rc reply → CarriesRequest s x u r →
    (x.kind = .readSegment ∧ r.kind = .read) ∨ (x.kind = .writeSegment ∧ r.kind = .confirmedWrite) →
      let a := answered s r.station
      (∀ words, reply = .data words → AfterSegment a u r (frameCount x) words (exec (.receptionEnd rc) s)) ∧
      (reply = .ack → AfterSegment a u r (frameCount x) [] (exec (.receptionEnd rc) s)) ∧
      ∀ reason, reply = .nak reason → AfterNak a u r id reason (exec (.receptionEnd rc) s)

/-- A PARKED reply to a segment parks its request with that segment, both timers started, or the collect timer not
when the request is to be abandoned. A COLLECT takes DATA or ACK as its segment's reply would be, starts the collect
timer again on PARKED or NAK BUSY unless abandon pending is set, and ends the request on another NAK. An ABANDON's ACK
ends it CANCELLED or PARK-TIMEOUT. COLLECT and ABANDON flip no toggle. -/
def Obligations.ParkedWorkIsCollectedOrAbandoned : Prop :=
  (∀ (s : State) (x : Exchange) (rc : Reception) (u : Tag) (r : Request),
    Quiet s → Receives s x rc .parked → CarriesRequest s x u r →
    x.kind = .readSegment ∨ x.kind = .writeSegment →
      let abandoned := r.abandonPending || r.cancelPending
      exec (.receptionEnd rc) s =
        .next { answered s r.station with
          requests := s.requests.set u
            (some { r with
              abandonPending := abandoned
              state := .parked
                { segment :=
                    { write := x.kind = .writeSegment, address := x.frame.getD 1 0#16, length := frameCount x }
                  park := some (1000 * s.settings.parkLimit.toNat)
                  collect :=
                    if abandoned then .stopped else .running (100 * s.settings.collectInterval.toNat) } }) }) ∧
  ∀ (s : State) (x : Exchange) (rc : Reception) (u : Tag) (r : Request) (part : ParkPart) (reply : Reply),
    Quiet s → Receives s x rc reply → CarriesParked s x u r part →
      (x.kind = .collect →
        (∀ words, reply = .data words →
          AfterSegment (idle s) u r part.segment.length words (exec (.receptionEnd rc) s)) ∧
        (reply = .ack → AfterSegment (idle s) u r part.segment.length [] (exec (.receptionEnd rc) s)) ∧
        (reply = .parked ∨ reply = .nak .busy →
          exec (.receptionEnd rc) s =
            .next { idle s with
              requests := s.requests.set u
                (some (if r.abandonPending then r
                else { r with state := .parked { part with
                  collect := .running (100 * s.settings.collectInterval.toNat) } })) }) ∧
        (reply = .nak .reject → exec (.receptionEnd rc) s = .next (completed (idle s) u r .rejected)) ∧
        (reply = .nak .fault → exec (.receptionEnd rc) s = .next (completed (idle s) u r .stationFault))) ∧
      (x.kind = .abandon → reply = .ack →
        exec (.receptionEnd rc) s =
          .next (completed (idle s) u r (if r.cancelPending then .cancelled else .parkTimeout)))

/-- What each relation says of the masked old value and the masked operand (R119): signed and unsigned as numbers. -/
def Sys2Proof.Claims.Holds : Relation → Word → Word → Prop
  | .eq, a, b => a = b
  | .ne, a, b => a ≠ b
  | .ltu, a, b => a.toNat < b.toNat
  | .geu, a, b => b.toNat ≤ a.toNat
  | .lts, a, b => a.toInt < b.toInt
  | .ges, a, b => b.toInt ≤ a.toInt

/-- A MODIFY whose own phase has been refused by a NAK: the phase is recorded as the failed one (R124, R125). -/
def Sys2Proof.Claims.phaseFailed (m : ModifyPart) (r : Request) : Request :=
  { r with kind := .modify { m with failedPhase := some m.phase } }

/-- The DATA of a MODIFY's read phase is its old value: the relation on the masked values decides between SUCCESS
without a write and the write phase, which cancel pending turns into CANCELLED. The ACK of the write phase completes
it with written YES. A NAK records the failed phase, BUSY makes the entry WAITING in its phase. -/
def Obligations.ModifyFollowsItsRelation : Prop :=
  ∀ (s : State) (x : Exchange) (rc : Reception) (u : Tag) (r : Request) (m : ModifyPart) (reply : Reply),
    Quiet s → Receives s x rc reply → CarriesRequest s x u r → r.kind = .modify m →
    x.kind = .modifyRead ∨ x.kind = .modifyWrite →
      let a := answered s r.station
      (∀ old, x.kind = .modifyRead → reply = .data [old] →
        let m1 := { m with oldValue := some old }
        let r1 := { r with kind := .modify m1, data := [old], busyCount := 0 }
        let holds := Holds m.relation (old &&& m.compareMask) (m.operand &&& m.compareMask)
        (¬ holds →
          exec (.receptionEnd rc) s = .next (completed a u { r1 with wordsDone := 1 } .success)) ∧
        (holds → r.cancelPending = true →
          exec (.receptionEnd rc) s = .next (completed a u r1 .cancelled)) ∧
        (holds → r.cancelPending = false →
          exec (.receptionEnd rc) s =
            .next { a with
              requests := s.requests.set u
                (some { r1 with kind := .modify { m1 with phase := .write }, state := .queued }) })) ∧
      (x.kind = .modifyWrite → reply = .ack →
        exec (.receptionEnd rc) s =
          .next (completed a u
            { r with kind := .modify { m with written := .yes }, busyCount := 0, wordsDone := 1 } .success)) ∧
      ∀ reason, reply = .nak reason →
        AfterNak a u r (phaseFailed m) reason (exec (.receptionEnd rc) s)

/-- An ACK delivers a segment of a posted entry, which is then freed, freed CANCELLED under flush pending, or QUEUED
for its next segment; a NAK frees it with its record, or makes it WAITING. A BROADCAST is freed at the end of its gap,
without a record; the end of a gap changes nothing while none runs. That BROADCAST_GAP_END changes nothing without a
gap is the model's choice (assumption log 2). -/
def Obligations.PostedWorkIsDeliveredOrReported : Prop :=
  (∀ (s : State) (x : Exchange) (rc : Reception) (p : PostedIndex) (e : Posted) (i : StationId) (reply : Reply),
    Quiet s → FaultsKept s → Receives s x rc reply → CarriesPosted s x p e i →
      let a := answered s i
      let out := exec (.receptionEnd rc) s
      (reply = .ack →
        let e1 := { e with wordsDone := e.wordsDone + frameCount x, busyCount := 0 }
        (e1.wordsDone = e.data.length → out = .next (freed a p e1 [])) ∧
        (e1.wordsDone ≠ e.data.length → e.flushPending = true → out = .next (freed a p e1 [.cancelled])) ∧
        (e1.wordsDone ≠ e.data.length → e.flushPending = false →
          out = .next { a with posted := s.posted.set p (some { e1 with state := .queued }) })) ∧
      (reply = .nak .reject → out = .next (freed a p e [.rejected])) ∧
      (reply = .nak .fault → out = .next (freed a p e [.stationFault])) ∧
      (reply = .nak .busy →
        (LimitReached s.settings (busier e.busyCount) → out = .next (freed a p e [.busyLimit])) ∧
        (¬ LimitReached s.settings (busier e.busyCount) → e.flushPending = true →
          out = .next (freed a p e [.cancelled])) ∧
        (¬ LimitReached s.settings (busier e.busyCount) → e.flushPending = false →
          out =
            .next { a with
              posted := s.posted.set p
                (some { e with
                  busyCount := busier e.busyCount
                  state := .waiting (16 * s.settings.busyBackoff.toNat) }) }))) ∧
  ∀ s : State,
    ((∀ x n, s.exchange = some x → x.phase ≠ .gap n) → exec .broadcastGapEnd s = .next s) ∧
    ∀ x n p e, Quiet s → s.exchange = some x → x.kind = .broadcast → x.phase = .gap n → x.owner = .posted p →
      s.postedEntry p = some e → e.target = .broadcast →
        exec .broadcastGapEnd s = .next (freed (idle s) p e [])

/-- One item of an ATTN: ignored when its sequence is not after the last accepted one, merged into the item of its
station and code, appended while fewer than 32 stand, and otherwise it and all that follow are left (R166 to R168). -/
def Sys2Proof.Claims.takeOne (i : StationId) (p : AttnProgress) (e : AttnEntry) : AttnProgress :=
  let ahead := (e.sequence.toNat + 256 - p.last.toNat) % 256
  if p.stopped then p
  else if ahead = 0 ∨ 127 < ahead then p
  else if ∃ a ∈ p.queue, a.station = i ∧ a.code = e.code then
    { p with
      last := e.sequence
      queue := p.queue.map fun a =>
        if a.station = i ∧ a.code = e.code then
          { a with occurrences := min 255 (a.occurrences + 1), info := e.info }
        else a }
  else if p.queue.length < 32 then
    { p with
      last := e.sequence, queue := p.queue ++ [{ station := i, code := e.code, occurrences := 1, info := e.info }] }
  else { p with stopped := true }

/-- A valid reply to a POLL sets the poll bookkeeping: QUIET clears the backlog and starts the poll timer; ATTN takes
its items in order, records the last accepted sequence and the backlog, and makes the next poll due at once when MORE
is set and no item was left, else starts the timer. A station that is not attention capable is never due and its timer
never runs. -/
def Obligations.PollRepliesFillTheAttentionQueue : Prop :=
  ∀ (s : State) (x : Exchange) (rc : Reception) (i : StationId) (reply : Reply),
    Quiet s → Receives s x rc reply → x.kind = .poll → x.owner = .station i → x.destination = .station i →
      let capable := (s.station i).attentionCapable
      let timer : Option Nat := if capable then some (1000 * s.settings.pollInterval.toNat) else none
      (reply = .quiet →
        exec (.receptionEnd rc) s =
          .next { idle s with
            stations := s.stations.set i
              { s.station i with backlog := false, pollDue := false, pollTimer := timer } }) ∧
      ∀ items more, reply = .attn items more →
        let p := items.foldl (takeOne i) { queue := s.attention, last := (s.station i).lastSequence, stopped := false }
        exec (.receptionEnd rc) s =
          .next { idle s with
            attention := p.queue
            stations := s.stations.set i
              { s.station i with
                lastSequence := p.last
                backlog := p.stopped
                pollDue := capable && more && !p.stopped
                pollTimer := if more && !p.stopped then none else timer } }

/-- An IDENTITY makes its station ONLINE with the fields it carries, its toggle 0 and its poll due when it is
attention capable, and latches STATION. In the enumeration pass the end of the IDENTIFY, answered or FAILED, moves the
pass to the next station; after the last one the link is UP and LINK is latched. -/
def Obligations.IdentityMakesItsStationOnline : Prop :=
  ∀ (s : State) (x : Exchange) (i : StationId), s.access = none →
    s.exchange = some x → x.kind = .identify → x.owner = .station i → x.destination = .station i →
      (∀ rc f, Receives s x rc (.identity f) →
        let on := { s with
          exchange := none
          latched := { s.latched with station := true }
          stations := s.stations.set i
            { s.station i with
              state := .online, toggle := false, stationClass := f.stationClass, revision := f.revision
              maxBurst := f.maxBurst, parkCapable := f.parkCapable, attentionCapable := f.attentionCapable
              lastSequence := f.attentionBase, backlog := false, pollDue := f.attentionCapable
              pollTimer := none } }
        (s.link = .up → exec (.receptionEnd rc) s = .next on) ∧
        ∀ rest, s.link = .enumerating → s.pass = i :: rest →
          (rest ≠ [] → exec (.receptionEnd rc) s = .next { on with pass := rest }) ∧
          (rest = [] →
            exec (.receptionEnd rc) s =
              .next { on with pass := [], link := .up, latched := { s.latched with station := true, link := true } })) ∧
      ∀ c rest, x.limit ≤ x.attempt → EndsFailed s x c → s.link = .enumerating → s.pass = i :: rest →
        ∃ t, exec c s = .next t ∧ t.exchange = none ∧ (t.station i).state = .lost ∧ t.latched.station = true ∧
          t.pass = rest ∧ (rest ≠ [] → t.link = .enumerating ∧ t.latched.link = s.latched.link) ∧
          (rest = [] → t.link = .up ∧ t.latched.link = true)

/-- The end of an exchange of a stale window entry: a reply that does not leave it PARKED frees it, with no WINDOW
cause and no status; the toggle flips as for any owner. A PARKED reply, or a NAK BUSY to its COLLECT, leaves it PARKED
and stale. It is parked, and its collect timer started again, as an entry that is not stale is. -/
def Obligations.StaleEntryIsFreedByItsExchange : Prop :=
  ∀ (s : State) (x : Exchange) (rc : Reception) (u : Tag) (r : Request) (w : WindowPart) (reply : Reply),
    Quiet s → Receives s x rc reply → x.owner = .request u → x.destination = .station r.station →
    s.request u = some r → r.origin = .window w → w.stale = true →
    (x.kind = .readSegment ∧ r.state = .active) ∨
      ((x.kind = .collect ∨ x.kind = .abandon) ∧ ∃ part, r.state = .parked part) →
      let a := if x.kind = .readSegment then answered s r.station else idle s
      (reply ≠ .parked → ¬ (x.kind = .collect ∧ reply = .nak .busy) →
        exec (.receptionEnd rc) s =
          .next { a with
            requests := s.requests.set u none
            stations := a.stations.set r.station
              { a.station r.station with queue := (a.station r.station).queue.erase (.request u) } }) ∧
      (x.kind = .readSegment → reply = .parked →
        let abandoned := r.abandonPending || r.cancelPending
        exec (.receptionEnd rc) s =
          .next { a with
            requests := s.requests.set u
              (some { r with
                abandonPending := abandoned
                state := .parked
                  { segment := { write := false, address := x.frame.getD 1 0#16, length := frameCount x }
                    park := some (1000 * s.settings.parkLimit.toNat)
                    collect :=
                      if abandoned then .stopped else .running (100 * s.settings.collectInterval.toNat) } }) }) ∧
      ∀ part, x.kind = .collect → reply = .parked ∨ reply = .nak .busy → r.state = .parked part →
        exec (.receptionEnd rc) s =
          .next { a with
            requests := s.requests.set u
              (some (if r.abandonPending then r
              else { r with state := .parked { part with
                collect := .running (100 * s.settings.collectInterval.toNat) } })) }

/-! ### Invariants -/

/-- Every step keeps the queues exact (every unfinished entry once, in its own queue, and no other), keeps every queue
in the order of acceptance, and keeps their work in order: only heads of queues are ACTIVE, WAITING or PARKED, and the
one exchange in flight belongs to a head that is in the state its kind needs, no other entry being ACTIVE. -/
def Obligations.QueueDisciplineIsKept : Prop :=
  ∀ s t : State, step s = .next t → QueuesExact s →
    QueuesExact t ∧ (OrdersRising s → OrdersRising t) ∧
      (OnlyHeadsBusy s → OwnerStands s → OnlyHeadsBusy t ∧ OwnerStands t)

/-- Every step keeps the reports exact: the Completion List holds each DONE PORT entry once, the attention queue at
most 32 items with no two of a station and code, the fault list at most 8 records with drops only beside records. -/
def Obligations.ReportListsAreKept : Prop :=
  ∀ s t : State, step s = .next t →
    (CompletionsExact s → CompletionsExact t) ∧ (AttentionKept s → AttentionKept t) ∧ (FaultsKept s → FaultsKept t)

/-- Every step keeps the capacities and ranges: the pool's 128 words, the quota of four window entries, one OPEN
entry, 16 staged words, every configuration register in its range, the scheduler's fields in theirs, the attempts
within their limit, the poll bookkeeping, and a DOWN link quiet. Words done never exceeds count and equals it on
SUCCESS (R18); a station that is not ONLINE has an empty queue (R35), the enumeration pass naming no ONLINE station
(R45). -/
def Obligations.CapacitiesAndRangesAreKept : Prop :=
  ∀ s t : State, step s = .next t →
    (PoolKept s → PoolKept t) ∧ (WindowQuotaKept s → WindowQuotaKept t) ∧ (OneOpen s → OneOpen t) ∧
      (StagingKept s → StagingKept t) ∧ (SettingsInRange s.settings → SettingsInRange t.settings) ∧
      (SchedulerKept s → SchedulerKept t) ∧ (AttemptsKept s → AttemptsKept t) ∧ (PollsKept s → PollsKept t) ∧
      (DownIsQuiet s → DownIsQuiet t) ∧ (OwnerStands s → WordsDoneKept s → WordsDoneKept t) ∧
      (DownIsQuiet s → PassKept s → PassKept t ∧ (OnlineQueuesOnly s → OnlineQueuesOnly t))

/-- Every invariant holds at reset. -/
def Obligations.InvariantsHoldAtReset : Prop :=
  QueuesExact State.reset ∧ OrdersRising State.reset ∧ OnlyHeadsBusy State.reset ∧ OwnerStands State.reset ∧
    CompletionsExact State.reset ∧ AttentionKept State.reset ∧ FaultsKept State.reset ∧ PoolKept State.reset ∧
    WindowQuotaKept State.reset ∧ OneOpen State.reset ∧ StagingKept State.reset ∧
    SettingsInRange State.reset.settings ∧ SchedulerKept State.reset ∧ AttemptsKept State.reset ∧
    PollsKept State.reset ∧ DownIsQuiet State.reset ∧ WordsDoneKept State.reset ∧ PassKept State.reset ∧
    OnlineQueuesOnly State.reset
end

