-- ==== Sys2Proof/Laws/State.lean ====
section
/-! SUPPORT. The small lemmas of `State`: for each named update of one field, what every field reads after it, true by
`rfl`, so that no proof unfolds a record update. -/

namespace Sys2Proof.Machine

variable (s : State)

/-! ### putRequest -/

@[simp] theorem State.putRequest_pending (t : Tag) (r : Option Request) : (s.putRequest t r).pending = s.pending := rfl
@[simp] theorem State.putRequest_command (t : Tag) (r : Option Request) : (s.putRequest t r).command = s.command := rfl
@[simp] theorem State.putRequest_result (t : Tag) (r : Option Request) : (s.putRequest t r).result = s.result := rfl
@[simp] theorem State.putRequest_parameter (t : Tag) (r : Option Request) : (s.putRequest t r).parameter = s.parameter := rfl
@[simp] theorem State.putRequest_submitTag (t : Tag) (r : Option Request) : (s.putRequest t r).submitTag = s.submitTag := rfl
@[simp] theorem State.putRequest_staging (t : Tag) (r : Option Request) : (s.putRequest t r).staging = s.staging := rfl
@[simp] theorem State.putRequest_completion (t : Tag) (r : Option Request) : (s.putRequest t r).completion = s.completion := rfl
@[simp] theorem State.putRequest_dataPosition (t : Tag) (r : Option Request) : (s.putRequest t r).dataPosition = s.dataPosition := rfl
@[simp] theorem State.putRequest_attentionRecord (t : Tag) (r : Option Request) : (s.putRequest t r).attentionRecord = s.attentionRecord := rfl
@[simp] theorem State.putRequest_faultRegisters (t : Tag) (r : Option Request) : (s.putRequest t r).faultRegisters = s.faultRegisters := rfl
@[simp] theorem State.putRequest_settings (t : Tag) (r : Option Request) : (s.putRequest t r).settings = s.settings := rfl
@[simp] theorem State.putRequest_stationSelect (t : Tag) (r : Option Request) : (s.putRequest t r).stationSelect = s.stationSelect := rfl
@[simp] theorem State.putRequest_latched (t : Tag) (r : Option Request) : (s.putRequest t r).latched = s.latched := rfl
@[simp] theorem State.putRequest_enables (t : Tag) (r : Option Request) : (s.putRequest t r).enables = s.enables := rfl
@[simp] theorem State.putRequest_access (t : Tag) (r : Option Request) : (s.putRequest t r).access = s.access := rfl
@[simp] theorem State.putRequest_portWaiting (t : Tag) (r : Option Request) : (s.putRequest t r).portWaiting = s.portWaiting := rfl
@[simp] theorem State.putRequest_dataOut (t : Tag) (r : Option Request) : (s.putRequest t r).dataOut = s.dataOut := rfl
@[simp] theorem State.putRequest_windowStatus (t : Tag) (r : Option Request) : (s.putRequest t r).windowStatus = s.windowStatus := rfl
@[simp] theorem State.putRequest_requests (t : Tag) (r : Option Request) : (s.putRequest t r).requests = s.requests.set t r := rfl
@[simp] theorem State.putRequest_completionList (t : Tag) (r : Option Request) : (s.putRequest t r).completionList = s.completionList := rfl
@[simp] theorem State.putRequest_posted (t : Tag) (r : Option Request) : (s.putRequest t r).posted = s.posted := rfl
@[simp] theorem State.putRequest_broadcastQueue (t : Tag) (r : Option Request) : (s.putRequest t r).broadcastQueue = s.broadcastQueue := rfl
@[simp] theorem State.putRequest_nextOrder (t : Tag) (r : Option Request) : (s.putRequest t r).nextOrder = s.nextOrder := rfl
@[simp] theorem State.putRequest_stations (t : Tag) (r : Option Request) : (s.putRequest t r).stations = s.stations := rfl
@[simp] theorem State.putRequest_link (t : Tag) (r : Option Request) : (s.putRequest t r).link = s.link := rfl
@[simp] theorem State.putRequest_pass (t : Tag) (r : Option Request) : (s.putRequest t r).pass = s.pass := rfl
@[simp] theorem State.putRequest_highPosition (t : Tag) (r : Option Request) : (s.putRequest t r).highPosition = s.highPosition := rfl
@[simp] theorem State.putRequest_lowPosition (t : Tag) (r : Option Request) : (s.putRequest t r).lowPosition = s.lowPosition := rfl
@[simp] theorem State.putRequest_starvation (t : Tag) (r : Option Request) : (s.putRequest t r).starvation = s.starvation := rfl
@[simp] theorem State.putRequest_exchange (t : Tag) (r : Option Request) : (s.putRequest t r).exchange = s.exchange := rfl
@[simp] theorem State.putRequest_attention (t : Tag) (r : Option Request) : (s.putRequest t r).attention = s.attention := rfl
@[simp] theorem State.putRequest_faults (t : Tag) (r : Option Request) : (s.putRequest t r).faults = s.faults := rfl
@[simp] theorem State.putRequest_dropped (t : Tag) (r : Option Request) : (s.putRequest t r).dropped = s.dropped := rfl
@[simp] theorem State.putRequest_holdInput (t : Tag) (r : Option Request) : (s.putRequest t r).holdInput = s.holdInput := rfl
@[simp] theorem State.putRequest_resetInput (t : Tag) (r : Option Request) : (s.putRequest t r).resetInput = s.resetInput := rfl

/-! ### putPosted -/

@[simp] theorem State.putPosted_pending (p : PostedIndex) (e : Option Posted) : (s.putPosted p e).pending = s.pending := rfl
@[simp] theorem State.putPosted_command (p : PostedIndex) (e : Option Posted) : (s.putPosted p e).command = s.command := rfl
@[simp] theorem State.putPosted_result (p : PostedIndex) (e : Option Posted) : (s.putPosted p e).result = s.result := rfl
@[simp] theorem State.putPosted_parameter (p : PostedIndex) (e : Option Posted) : (s.putPosted p e).parameter = s.parameter := rfl
@[simp] theorem State.putPosted_submitTag (p : PostedIndex) (e : Option Posted) : (s.putPosted p e).submitTag = s.submitTag := rfl
@[simp] theorem State.putPosted_staging (p : PostedIndex) (e : Option Posted) : (s.putPosted p e).staging = s.staging := rfl
@[simp] theorem State.putPosted_completion (p : PostedIndex) (e : Option Posted) : (s.putPosted p e).completion = s.completion := rfl
@[simp] theorem State.putPosted_dataPosition (p : PostedIndex) (e : Option Posted) : (s.putPosted p e).dataPosition = s.dataPosition := rfl
@[simp] theorem State.putPosted_attentionRecord (p : PostedIndex) (e : Option Posted) : (s.putPosted p e).attentionRecord = s.attentionRecord := rfl
@[simp] theorem State.putPosted_faultRegisters (p : PostedIndex) (e : Option Posted) : (s.putPosted p e).faultRegisters = s.faultRegisters := rfl
@[simp] theorem State.putPosted_settings (p : PostedIndex) (e : Option Posted) : (s.putPosted p e).settings = s.settings := rfl
@[simp] theorem State.putPosted_stationSelect (p : PostedIndex) (e : Option Posted) : (s.putPosted p e).stationSelect = s.stationSelect := rfl
@[simp] theorem State.putPosted_latched (p : PostedIndex) (e : Option Posted) : (s.putPosted p e).latched = s.latched := rfl
@[simp] theorem State.putPosted_enables (p : PostedIndex) (e : Option Posted) : (s.putPosted p e).enables = s.enables := rfl
@[simp] theorem State.putPosted_access (p : PostedIndex) (e : Option Posted) : (s.putPosted p e).access = s.access := rfl
@[simp] theorem State.putPosted_portWaiting (p : PostedIndex) (e : Option Posted) : (s.putPosted p e).portWaiting = s.portWaiting := rfl
@[simp] theorem State.putPosted_dataOut (p : PostedIndex) (e : Option Posted) : (s.putPosted p e).dataOut = s.dataOut := rfl
@[simp] theorem State.putPosted_windowStatus (p : PostedIndex) (e : Option Posted) : (s.putPosted p e).windowStatus = s.windowStatus := rfl
@[simp] theorem State.putPosted_requests (p : PostedIndex) (e : Option Posted) : (s.putPosted p e).requests = s.requests := rfl
@[simp] theorem State.putPosted_completionList (p : PostedIndex) (e : Option Posted) : (s.putPosted p e).completionList = s.completionList := rfl
@[simp] theorem State.putPosted_posted (p : PostedIndex) (e : Option Posted) : (s.putPosted p e).posted = s.posted.set p e := rfl
@[simp] theorem State.putPosted_broadcastQueue (p : PostedIndex) (e : Option Posted) : (s.putPosted p e).broadcastQueue = s.broadcastQueue := rfl
@[simp] theorem State.putPosted_nextOrder (p : PostedIndex) (e : Option Posted) : (s.putPosted p e).nextOrder = s.nextOrder := rfl
@[simp] theorem State.putPosted_stations (p : PostedIndex) (e : Option Posted) : (s.putPosted p e).stations = s.stations := rfl
@[simp] theorem State.putPosted_link (p : PostedIndex) (e : Option Posted) : (s.putPosted p e).link = s.link := rfl
@[simp] theorem State.putPosted_pass (p : PostedIndex) (e : Option Posted) : (s.putPosted p e).pass = s.pass := rfl
@[simp] theorem State.putPosted_highPosition (p : PostedIndex) (e : Option Posted) : (s.putPosted p e).highPosition = s.highPosition := rfl
@[simp] theorem State.putPosted_lowPosition (p : PostedIndex) (e : Option Posted) : (s.putPosted p e).lowPosition = s.lowPosition := rfl
@[simp] theorem State.putPosted_starvation (p : PostedIndex) (e : Option Posted) : (s.putPosted p e).starvation = s.starvation := rfl
@[simp] theorem State.putPosted_exchange (p : PostedIndex) (e : Option Posted) : (s.putPosted p e).exchange = s.exchange := rfl
@[simp] theorem State.putPosted_attention (p : PostedIndex) (e : Option Posted) : (s.putPosted p e).attention = s.attention := rfl
@[simp] theorem State.putPosted_faults (p : PostedIndex) (e : Option Posted) : (s.putPosted p e).faults = s.faults := rfl
@[simp] theorem State.putPosted_dropped (p : PostedIndex) (e : Option Posted) : (s.putPosted p e).dropped = s.dropped := rfl
@[simp] theorem State.putPosted_holdInput (p : PostedIndex) (e : Option Posted) : (s.putPosted p e).holdInput = s.holdInput := rfl
@[simp] theorem State.putPosted_resetInput (p : PostedIndex) (e : Option Posted) : (s.putPosted p e).resetInput = s.resetInput := rfl

/-! ### updateStation -/

@[simp] theorem State.updateStation_pending (i : StationId) (f : Station → Station) : (s.updateStation i f).pending = s.pending := rfl
@[simp] theorem State.updateStation_command (i : StationId) (f : Station → Station) : (s.updateStation i f).command = s.command := rfl
@[simp] theorem State.updateStation_result (i : StationId) (f : Station → Station) : (s.updateStation i f).result = s.result := rfl
@[simp] theorem State.updateStation_parameter (i : StationId) (f : Station → Station) : (s.updateStation i f).parameter = s.parameter := rfl
@[simp] theorem State.updateStation_submitTag (i : StationId) (f : Station → Station) : (s.updateStation i f).submitTag = s.submitTag := rfl
@[simp] theorem State.updateStation_staging (i : StationId) (f : Station → Station) : (s.updateStation i f).staging = s.staging := rfl
@[simp] theorem State.updateStation_completion (i : StationId) (f : Station → Station) : (s.updateStation i f).completion = s.completion := rfl
@[simp] theorem State.updateStation_dataPosition (i : StationId) (f : Station → Station) : (s.updateStation i f).dataPosition = s.dataPosition := rfl
@[simp] theorem State.updateStation_attentionRecord (i : StationId) (f : Station → Station) : (s.updateStation i f).attentionRecord = s.attentionRecord := rfl
@[simp] theorem State.updateStation_faultRegisters (i : StationId) (f : Station → Station) : (s.updateStation i f).faultRegisters = s.faultRegisters := rfl
@[simp] theorem State.updateStation_settings (i : StationId) (f : Station → Station) : (s.updateStation i f).settings = s.settings := rfl
@[simp] theorem State.updateStation_stationSelect (i : StationId) (f : Station → Station) : (s.updateStation i f).stationSelect = s.stationSelect := rfl
@[simp] theorem State.updateStation_latched (i : StationId) (f : Station → Station) : (s.updateStation i f).latched = s.latched := rfl
@[simp] theorem State.updateStation_enables (i : StationId) (f : Station → Station) : (s.updateStation i f).enables = s.enables := rfl
@[simp] theorem State.updateStation_access (i : StationId) (f : Station → Station) : (s.updateStation i f).access = s.access := rfl
@[simp] theorem State.updateStation_portWaiting (i : StationId) (f : Station → Station) : (s.updateStation i f).portWaiting = s.portWaiting := rfl
@[simp] theorem State.updateStation_dataOut (i : StationId) (f : Station → Station) : (s.updateStation i f).dataOut = s.dataOut := rfl
@[simp] theorem State.updateStation_windowStatus (i : StationId) (f : Station → Station) : (s.updateStation i f).windowStatus = s.windowStatus := rfl
@[simp] theorem State.updateStation_requests (i : StationId) (f : Station → Station) : (s.updateStation i f).requests = s.requests := rfl
@[simp] theorem State.updateStation_completionList (i : StationId) (f : Station → Station) : (s.updateStation i f).completionList = s.completionList := rfl
@[simp] theorem State.updateStation_posted (i : StationId) (f : Station → Station) : (s.updateStation i f).posted = s.posted := rfl
@[simp] theorem State.updateStation_broadcastQueue (i : StationId) (f : Station → Station) : (s.updateStation i f).broadcastQueue = s.broadcastQueue := rfl
@[simp] theorem State.updateStation_nextOrder (i : StationId) (f : Station → Station) : (s.updateStation i f).nextOrder = s.nextOrder := rfl
@[simp] theorem State.updateStation_stations (i : StationId) (f : Station → Station) : (s.updateStation i f).stations = s.stations.set i (f s.stations[i]) := rfl
@[simp] theorem State.updateStation_link (i : StationId) (f : Station → Station) : (s.updateStation i f).link = s.link := rfl
@[simp] theorem State.updateStation_pass (i : StationId) (f : Station → Station) : (s.updateStation i f).pass = s.pass := rfl
@[simp] theorem State.updateStation_highPosition (i : StationId) (f : Station → Station) : (s.updateStation i f).highPosition = s.highPosition := rfl
@[simp] theorem State.updateStation_lowPosition (i : StationId) (f : Station → Station) : (s.updateStation i f).lowPosition = s.lowPosition := rfl
@[simp] theorem State.updateStation_starvation (i : StationId) (f : Station → Station) : (s.updateStation i f).starvation = s.starvation := rfl
@[simp] theorem State.updateStation_exchange (i : StationId) (f : Station → Station) : (s.updateStation i f).exchange = s.exchange := rfl
@[simp] theorem State.updateStation_attention (i : StationId) (f : Station → Station) : (s.updateStation i f).attention = s.attention := rfl
@[simp] theorem State.updateStation_faults (i : StationId) (f : Station → Station) : (s.updateStation i f).faults = s.faults := rfl
@[simp] theorem State.updateStation_dropped (i : StationId) (f : Station → Station) : (s.updateStation i f).dropped = s.dropped := rfl
@[simp] theorem State.updateStation_holdInput (i : StationId) (f : Station → Station) : (s.updateStation i f).holdInput = s.holdInput := rfl
@[simp] theorem State.updateStation_resetInput (i : StationId) (f : Station → Station) : (s.updateStation i f).resetInput = s.resetInput := rfl

/-! ### setResult -/

@[simp] theorem State.setResult_pending (c : ResultCode) : (s.setResult c).pending = s.pending := rfl
@[simp] theorem State.setResult_command (c : ResultCode) : (s.setResult c).command = s.command := rfl
@[simp] theorem State.setResult_result (c : ResultCode) : (s.setResult c).result = c := rfl
@[simp] theorem State.setResult_parameter (c : ResultCode) : (s.setResult c).parameter = s.parameter := rfl
@[simp] theorem State.setResult_submitTag (c : ResultCode) : (s.setResult c).submitTag = s.submitTag := rfl
@[simp] theorem State.setResult_staging (c : ResultCode) : (s.setResult c).staging = s.staging := rfl
@[simp] theorem State.setResult_completion (c : ResultCode) : (s.setResult c).completion = s.completion := rfl
@[simp] theorem State.setResult_dataPosition (c : ResultCode) : (s.setResult c).dataPosition = s.dataPosition := rfl
@[simp] theorem State.setResult_attentionRecord (c : ResultCode) : (s.setResult c).attentionRecord = s.attentionRecord := rfl
@[simp] theorem State.setResult_faultRegisters (c : ResultCode) : (s.setResult c).faultRegisters = s.faultRegisters := rfl
@[simp] theorem State.setResult_settings (c : ResultCode) : (s.setResult c).settings = s.settings := rfl
@[simp] theorem State.setResult_stationSelect (c : ResultCode) : (s.setResult c).stationSelect = s.stationSelect := rfl
@[simp] theorem State.setResult_latched (c : ResultCode) : (s.setResult c).latched = s.latched := rfl
@[simp] theorem State.setResult_enables (c : ResultCode) : (s.setResult c).enables = s.enables := rfl
@[simp] theorem State.setResult_access (c : ResultCode) : (s.setResult c).access = s.access := rfl
@[simp] theorem State.setResult_portWaiting (c : ResultCode) : (s.setResult c).portWaiting = s.portWaiting := rfl
@[simp] theorem State.setResult_dataOut (c : ResultCode) : (s.setResult c).dataOut = s.dataOut := rfl
@[simp] theorem State.setResult_windowStatus (c : ResultCode) : (s.setResult c).windowStatus = s.windowStatus := rfl
@[simp] theorem State.setResult_requests (c : ResultCode) : (s.setResult c).requests = s.requests := rfl
@[simp] theorem State.setResult_completionList (c : ResultCode) : (s.setResult c).completionList = s.completionList := rfl
@[simp] theorem State.setResult_posted (c : ResultCode) : (s.setResult c).posted = s.posted := rfl
@[simp] theorem State.setResult_broadcastQueue (c : ResultCode) : (s.setResult c).broadcastQueue = s.broadcastQueue := rfl
@[simp] theorem State.setResult_nextOrder (c : ResultCode) : (s.setResult c).nextOrder = s.nextOrder := rfl
@[simp] theorem State.setResult_stations (c : ResultCode) : (s.setResult c).stations = s.stations := rfl
@[simp] theorem State.setResult_link (c : ResultCode) : (s.setResult c).link = s.link := rfl
@[simp] theorem State.setResult_pass (c : ResultCode) : (s.setResult c).pass = s.pass := rfl
@[simp] theorem State.setResult_highPosition (c : ResultCode) : (s.setResult c).highPosition = s.highPosition := rfl
@[simp] theorem State.setResult_lowPosition (c : ResultCode) : (s.setResult c).lowPosition = s.lowPosition := rfl
@[simp] theorem State.setResult_starvation (c : ResultCode) : (s.setResult c).starvation = s.starvation := rfl
@[simp] theorem State.setResult_exchange (c : ResultCode) : (s.setResult c).exchange = s.exchange := rfl
@[simp] theorem State.setResult_attention (c : ResultCode) : (s.setResult c).attention = s.attention := rfl
@[simp] theorem State.setResult_faults (c : ResultCode) : (s.setResult c).faults = s.faults := rfl
@[simp] theorem State.setResult_dropped (c : ResultCode) : (s.setResult c).dropped = s.dropped := rfl
@[simp] theorem State.setResult_holdInput (c : ResultCode) : (s.setResult c).holdInput = s.holdInput := rfl
@[simp] theorem State.setResult_resetInput (c : ResultCode) : (s.setResult c).resetInput = s.resetInput := rfl

/-! ### latchStation -/

@[simp] theorem State.latchStation_pending : (s.latchStation).pending = s.pending := rfl
@[simp] theorem State.latchStation_command : (s.latchStation).command = s.command := rfl
@[simp] theorem State.latchStation_result : (s.latchStation).result = s.result := rfl
@[simp] theorem State.latchStation_parameter : (s.latchStation).parameter = s.parameter := rfl
@[simp] theorem State.latchStation_submitTag : (s.latchStation).submitTag = s.submitTag := rfl
@[simp] theorem State.latchStation_staging : (s.latchStation).staging = s.staging := rfl
@[simp] theorem State.latchStation_completion : (s.latchStation).completion = s.completion := rfl
@[simp] theorem State.latchStation_dataPosition : (s.latchStation).dataPosition = s.dataPosition := rfl
@[simp] theorem State.latchStation_attentionRecord : (s.latchStation).attentionRecord = s.attentionRecord := rfl
@[simp] theorem State.latchStation_faultRegisters : (s.latchStation).faultRegisters = s.faultRegisters := rfl
@[simp] theorem State.latchStation_settings : (s.latchStation).settings = s.settings := rfl
@[simp] theorem State.latchStation_stationSelect : (s.latchStation).stationSelect = s.stationSelect := rfl
@[simp] theorem State.latchStation_latched : (s.latchStation).latched = { s.latched with station := true } := rfl
@[simp] theorem State.latchStation_enables : (s.latchStation).enables = s.enables := rfl
@[simp] theorem State.latchStation_access : (s.latchStation).access = s.access := rfl
@[simp] theorem State.latchStation_portWaiting : (s.latchStation).portWaiting = s.portWaiting := rfl
@[simp] theorem State.latchStation_dataOut : (s.latchStation).dataOut = s.dataOut := rfl
@[simp] theorem State.latchStation_windowStatus : (s.latchStation).windowStatus = s.windowStatus := rfl
@[simp] theorem State.latchStation_requests : (s.latchStation).requests = s.requests := rfl
@[simp] theorem State.latchStation_completionList : (s.latchStation).completionList = s.completionList := rfl
@[simp] theorem State.latchStation_posted : (s.latchStation).posted = s.posted := rfl
@[simp] theorem State.latchStation_broadcastQueue : (s.latchStation).broadcastQueue = s.broadcastQueue := rfl
@[simp] theorem State.latchStation_nextOrder : (s.latchStation).nextOrder = s.nextOrder := rfl
@[simp] theorem State.latchStation_stations : (s.latchStation).stations = s.stations := rfl
@[simp] theorem State.latchStation_link : (s.latchStation).link = s.link := rfl
@[simp] theorem State.latchStation_pass : (s.latchStation).pass = s.pass := rfl
@[simp] theorem State.latchStation_highPosition : (s.latchStation).highPosition = s.highPosition := rfl
@[simp] theorem State.latchStation_lowPosition : (s.latchStation).lowPosition = s.lowPosition := rfl
@[simp] theorem State.latchStation_starvation : (s.latchStation).starvation = s.starvation := rfl
@[simp] theorem State.latchStation_exchange : (s.latchStation).exchange = s.exchange := rfl
@[simp] theorem State.latchStation_attention : (s.latchStation).attention = s.attention := rfl
@[simp] theorem State.latchStation_faults : (s.latchStation).faults = s.faults := rfl
@[simp] theorem State.latchStation_dropped : (s.latchStation).dropped = s.dropped := rfl
@[simp] theorem State.latchStation_holdInput : (s.latchStation).holdInput = s.holdInput := rfl
@[simp] theorem State.latchStation_resetInput : (s.latchStation).resetInput = s.resetInput := rfl

/-! ### latchLink -/

@[simp] theorem State.latchLink_pending : (s.latchLink).pending = s.pending := rfl
@[simp] theorem State.latchLink_command : (s.latchLink).command = s.command := rfl
@[simp] theorem State.latchLink_result : (s.latchLink).result = s.result := rfl
@[simp] theorem State.latchLink_parameter : (s.latchLink).parameter = s.parameter := rfl
@[simp] theorem State.latchLink_submitTag : (s.latchLink).submitTag = s.submitTag := rfl
@[simp] theorem State.latchLink_staging : (s.latchLink).staging = s.staging := rfl
@[simp] theorem State.latchLink_completion : (s.latchLink).completion = s.completion := rfl
@[simp] theorem State.latchLink_dataPosition : (s.latchLink).dataPosition = s.dataPosition := rfl
@[simp] theorem State.latchLink_attentionRecord : (s.latchLink).attentionRecord = s.attentionRecord := rfl
@[simp] theorem State.latchLink_faultRegisters : (s.latchLink).faultRegisters = s.faultRegisters := rfl
@[simp] theorem State.latchLink_settings : (s.latchLink).settings = s.settings := rfl
@[simp] theorem State.latchLink_stationSelect : (s.latchLink).stationSelect = s.stationSelect := rfl
@[simp] theorem State.latchLink_latched : (s.latchLink).latched = { s.latched with link := true } := rfl
@[simp] theorem State.latchLink_enables : (s.latchLink).enables = s.enables := rfl
@[simp] theorem State.latchLink_access : (s.latchLink).access = s.access := rfl
@[simp] theorem State.latchLink_portWaiting : (s.latchLink).portWaiting = s.portWaiting := rfl
@[simp] theorem State.latchLink_dataOut : (s.latchLink).dataOut = s.dataOut := rfl
@[simp] theorem State.latchLink_windowStatus : (s.latchLink).windowStatus = s.windowStatus := rfl
@[simp] theorem State.latchLink_requests : (s.latchLink).requests = s.requests := rfl
@[simp] theorem State.latchLink_completionList : (s.latchLink).completionList = s.completionList := rfl
@[simp] theorem State.latchLink_posted : (s.latchLink).posted = s.posted := rfl
@[simp] theorem State.latchLink_broadcastQueue : (s.latchLink).broadcastQueue = s.broadcastQueue := rfl
@[simp] theorem State.latchLink_nextOrder : (s.latchLink).nextOrder = s.nextOrder := rfl
@[simp] theorem State.latchLink_stations : (s.latchLink).stations = s.stations := rfl
@[simp] theorem State.latchLink_link : (s.latchLink).link = s.link := rfl
@[simp] theorem State.latchLink_pass : (s.latchLink).pass = s.pass := rfl
@[simp] theorem State.latchLink_highPosition : (s.latchLink).highPosition = s.highPosition := rfl
@[simp] theorem State.latchLink_lowPosition : (s.latchLink).lowPosition = s.lowPosition := rfl
@[simp] theorem State.latchLink_starvation : (s.latchLink).starvation = s.starvation := rfl
@[simp] theorem State.latchLink_exchange : (s.latchLink).exchange = s.exchange := rfl
@[simp] theorem State.latchLink_attention : (s.latchLink).attention = s.attention := rfl
@[simp] theorem State.latchLink_faults : (s.latchLink).faults = s.faults := rfl
@[simp] theorem State.latchLink_dropped : (s.latchLink).dropped = s.dropped := rfl
@[simp] theorem State.latchLink_holdInput : (s.latchLink).holdInput = s.holdInput := rfl
@[simp] theorem State.latchLink_resetInput : (s.latchLink).resetInput = s.resetInput := rfl

/-! ### latchWindow -/

@[simp] theorem State.latchWindow_pending : (s.latchWindow).pending = s.pending := rfl
@[simp] theorem State.latchWindow_command : (s.latchWindow).command = s.command := rfl
@[simp] theorem State.latchWindow_result : (s.latchWindow).result = s.result := rfl
@[simp] theorem State.latchWindow_parameter : (s.latchWindow).parameter = s.parameter := rfl
@[simp] theorem State.latchWindow_submitTag : (s.latchWindow).submitTag = s.submitTag := rfl
@[simp] theorem State.latchWindow_staging : (s.latchWindow).staging = s.staging := rfl
@[simp] theorem State.latchWindow_completion : (s.latchWindow).completion = s.completion := rfl
@[simp] theorem State.latchWindow_dataPosition : (s.latchWindow).dataPosition = s.dataPosition := rfl
@[simp] theorem State.latchWindow_attentionRecord : (s.latchWindow).attentionRecord = s.attentionRecord := rfl
@[simp] theorem State.latchWindow_faultRegisters : (s.latchWindow).faultRegisters = s.faultRegisters := rfl
@[simp] theorem State.latchWindow_settings : (s.latchWindow).settings = s.settings := rfl
@[simp] theorem State.latchWindow_stationSelect : (s.latchWindow).stationSelect = s.stationSelect := rfl
@[simp] theorem State.latchWindow_latched : (s.latchWindow).latched = { s.latched with window := true } := rfl
@[simp] theorem State.latchWindow_enables : (s.latchWindow).enables = s.enables := rfl
@[simp] theorem State.latchWindow_access : (s.latchWindow).access = s.access := rfl
@[simp] theorem State.latchWindow_portWaiting : (s.latchWindow).portWaiting = s.portWaiting := rfl
@[simp] theorem State.latchWindow_dataOut : (s.latchWindow).dataOut = s.dataOut := rfl
@[simp] theorem State.latchWindow_windowStatus : (s.latchWindow).windowStatus = s.windowStatus := rfl
@[simp] theorem State.latchWindow_requests : (s.latchWindow).requests = s.requests := rfl
@[simp] theorem State.latchWindow_completionList : (s.latchWindow).completionList = s.completionList := rfl
@[simp] theorem State.latchWindow_posted : (s.latchWindow).posted = s.posted := rfl
@[simp] theorem State.latchWindow_broadcastQueue : (s.latchWindow).broadcastQueue = s.broadcastQueue := rfl
@[simp] theorem State.latchWindow_nextOrder : (s.latchWindow).nextOrder = s.nextOrder := rfl
@[simp] theorem State.latchWindow_stations : (s.latchWindow).stations = s.stations := rfl
@[simp] theorem State.latchWindow_link : (s.latchWindow).link = s.link := rfl
@[simp] theorem State.latchWindow_pass : (s.latchWindow).pass = s.pass := rfl
@[simp] theorem State.latchWindow_highPosition : (s.latchWindow).highPosition = s.highPosition := rfl
@[simp] theorem State.latchWindow_lowPosition : (s.latchWindow).lowPosition = s.lowPosition := rfl
@[simp] theorem State.latchWindow_starvation : (s.latchWindow).starvation = s.starvation := rfl
@[simp] theorem State.latchWindow_exchange : (s.latchWindow).exchange = s.exchange := rfl
@[simp] theorem State.latchWindow_attention : (s.latchWindow).attention = s.attention := rfl
@[simp] theorem State.latchWindow_faults : (s.latchWindow).faults = s.faults := rfl
@[simp] theorem State.latchWindow_dropped : (s.latchWindow).dropped = s.dropped := rfl
@[simp] theorem State.latchWindow_holdInput : (s.latchWindow).holdInput = s.holdInput := rfl
@[simp] theorem State.latchWindow_resetInput : (s.latchWindow).resetInput = s.resetInput := rfl

/-! ### setDiscarded -/

@[simp] theorem State.setDiscarded_pending : (s.setDiscarded).pending = s.pending := rfl
@[simp] theorem State.setDiscarded_command : (s.setDiscarded).command = s.command := rfl
@[simp] theorem State.setDiscarded_result : (s.setDiscarded).result = s.result := rfl
@[simp] theorem State.setDiscarded_parameter : (s.setDiscarded).parameter = s.parameter := rfl
@[simp] theorem State.setDiscarded_submitTag : (s.setDiscarded).submitTag = s.submitTag := rfl
@[simp] theorem State.setDiscarded_staging : (s.setDiscarded).staging = s.staging := rfl
@[simp] theorem State.setDiscarded_completion : (s.setDiscarded).completion = s.completion := rfl
@[simp] theorem State.setDiscarded_dataPosition : (s.setDiscarded).dataPosition = s.dataPosition := rfl
@[simp] theorem State.setDiscarded_attentionRecord : (s.setDiscarded).attentionRecord = s.attentionRecord := rfl
@[simp] theorem State.setDiscarded_faultRegisters : (s.setDiscarded).faultRegisters = s.faultRegisters := rfl
@[simp] theorem State.setDiscarded_settings : (s.setDiscarded).settings = s.settings := rfl
@[simp] theorem State.setDiscarded_stationSelect : (s.setDiscarded).stationSelect = s.stationSelect := rfl
@[simp] theorem State.setDiscarded_latched : (s.setDiscarded).latched = s.latched := rfl
@[simp] theorem State.setDiscarded_enables : (s.setDiscarded).enables = s.enables := rfl
@[simp] theorem State.setDiscarded_access : (s.setDiscarded).access = s.access := rfl
@[simp] theorem State.setDiscarded_portWaiting : (s.setDiscarded).portWaiting = s.portWaiting := rfl
@[simp] theorem State.setDiscarded_dataOut : (s.setDiscarded).dataOut = s.dataOut := rfl
@[simp] theorem State.setDiscarded_windowStatus : (s.setDiscarded).windowStatus = { s.windowStatus with discardedSeen := true } := rfl
@[simp] theorem State.setDiscarded_requests : (s.setDiscarded).requests = s.requests := rfl
@[simp] theorem State.setDiscarded_completionList : (s.setDiscarded).completionList = s.completionList := rfl
@[simp] theorem State.setDiscarded_posted : (s.setDiscarded).posted = s.posted := rfl
@[simp] theorem State.setDiscarded_broadcastQueue : (s.setDiscarded).broadcastQueue = s.broadcastQueue := rfl
@[simp] theorem State.setDiscarded_nextOrder : (s.setDiscarded).nextOrder = s.nextOrder := rfl
@[simp] theorem State.setDiscarded_stations : (s.setDiscarded).stations = s.stations := rfl
@[simp] theorem State.setDiscarded_link : (s.setDiscarded).link = s.link := rfl
@[simp] theorem State.setDiscarded_pass : (s.setDiscarded).pass = s.pass := rfl
@[simp] theorem State.setDiscarded_highPosition : (s.setDiscarded).highPosition = s.highPosition := rfl
@[simp] theorem State.setDiscarded_lowPosition : (s.setDiscarded).lowPosition = s.lowPosition := rfl
@[simp] theorem State.setDiscarded_starvation : (s.setDiscarded).starvation = s.starvation := rfl
@[simp] theorem State.setDiscarded_exchange : (s.setDiscarded).exchange = s.exchange := rfl
@[simp] theorem State.setDiscarded_attention : (s.setDiscarded).attention = s.attention := rfl
@[simp] theorem State.setDiscarded_faults : (s.setDiscarded).faults = s.faults := rfl
@[simp] theorem State.setDiscarded_dropped : (s.setDiscarded).dropped = s.dropped := rfl
@[simp] theorem State.setDiscarded_holdInput : (s.setDiscarded).holdInput = s.holdInput := rfl
@[simp] theorem State.setDiscarded_resetInput : (s.setDiscarded).resetInput = s.resetInput := rfl

/-! ### stage -/

@[simp] theorem State.stage_pending (f : Staging → Staging) : (s.stage f).pending = s.pending := rfl
@[simp] theorem State.stage_command (f : Staging → Staging) : (s.stage f).command = s.command := rfl
@[simp] theorem State.stage_result (f : Staging → Staging) : (s.stage f).result = s.result := rfl
@[simp] theorem State.stage_parameter (f : Staging → Staging) : (s.stage f).parameter = s.parameter := rfl
@[simp] theorem State.stage_submitTag (f : Staging → Staging) : (s.stage f).submitTag = s.submitTag := rfl
@[simp] theorem State.stage_staging (f : Staging → Staging) : (s.stage f).staging = f s.staging := rfl
@[simp] theorem State.stage_completion (f : Staging → Staging) : (s.stage f).completion = s.completion := rfl
@[simp] theorem State.stage_dataPosition (f : Staging → Staging) : (s.stage f).dataPosition = s.dataPosition := rfl
@[simp] theorem State.stage_attentionRecord (f : Staging → Staging) : (s.stage f).attentionRecord = s.attentionRecord := rfl
@[simp] theorem State.stage_faultRegisters (f : Staging → Staging) : (s.stage f).faultRegisters = s.faultRegisters := rfl
@[simp] theorem State.stage_settings (f : Staging → Staging) : (s.stage f).settings = s.settings := rfl
@[simp] theorem State.stage_stationSelect (f : Staging → Staging) : (s.stage f).stationSelect = s.stationSelect := rfl
@[simp] theorem State.stage_latched (f : Staging → Staging) : (s.stage f).latched = s.latched := rfl
@[simp] theorem State.stage_enables (f : Staging → Staging) : (s.stage f).enables = s.enables := rfl
@[simp] theorem State.stage_access (f : Staging → Staging) : (s.stage f).access = s.access := rfl
@[simp] theorem State.stage_portWaiting (f : Staging → Staging) : (s.stage f).portWaiting = s.portWaiting := rfl
@[simp] theorem State.stage_dataOut (f : Staging → Staging) : (s.stage f).dataOut = s.dataOut := rfl
@[simp] theorem State.stage_windowStatus (f : Staging → Staging) : (s.stage f).windowStatus = s.windowStatus := rfl
@[simp] theorem State.stage_requests (f : Staging → Staging) : (s.stage f).requests = s.requests := rfl
@[simp] theorem State.stage_completionList (f : Staging → Staging) : (s.stage f).completionList = s.completionList := rfl
@[simp] theorem State.stage_posted (f : Staging → Staging) : (s.stage f).posted = s.posted := rfl
@[simp] theorem State.stage_broadcastQueue (f : Staging → Staging) : (s.stage f).broadcastQueue = s.broadcastQueue := rfl
@[simp] theorem State.stage_nextOrder (f : Staging → Staging) : (s.stage f).nextOrder = s.nextOrder := rfl
@[simp] theorem State.stage_stations (f : Staging → Staging) : (s.stage f).stations = s.stations := rfl
@[simp] theorem State.stage_link (f : Staging → Staging) : (s.stage f).link = s.link := rfl
@[simp] theorem State.stage_pass (f : Staging → Staging) : (s.stage f).pass = s.pass := rfl
@[simp] theorem State.stage_highPosition (f : Staging → Staging) : (s.stage f).highPosition = s.highPosition := rfl
@[simp] theorem State.stage_lowPosition (f : Staging → Staging) : (s.stage f).lowPosition = s.lowPosition := rfl
@[simp] theorem State.stage_starvation (f : Staging → Staging) : (s.stage f).starvation = s.starvation := rfl
@[simp] theorem State.stage_exchange (f : Staging → Staging) : (s.stage f).exchange = s.exchange := rfl
@[simp] theorem State.stage_attention (f : Staging → Staging) : (s.stage f).attention = s.attention := rfl
@[simp] theorem State.stage_faults (f : Staging → Staging) : (s.stage f).faults = s.faults := rfl
@[simp] theorem State.stage_dropped (f : Staging → Staging) : (s.stage f).dropped = s.dropped := rfl
@[simp] theorem State.stage_holdInput (f : Staging → Staging) : (s.stage f).holdInput = s.holdInput := rfl
@[simp] theorem State.stage_resetInput (f : Staging → Staging) : (s.stage f).resetInput = s.resetInput := rfl

/-! ### configure -/

@[simp] theorem State.configure_pending (f : Settings → Settings) : (s.configure f).pending = s.pending := rfl
@[simp] theorem State.configure_command (f : Settings → Settings) : (s.configure f).command = s.command := rfl
@[simp] theorem State.configure_result (f : Settings → Settings) : (s.configure f).result = s.result := rfl
@[simp] theorem State.configure_parameter (f : Settings → Settings) : (s.configure f).parameter = s.parameter := rfl
@[simp] theorem State.configure_submitTag (f : Settings → Settings) : (s.configure f).submitTag = s.submitTag := rfl
@[simp] theorem State.configure_staging (f : Settings → Settings) : (s.configure f).staging = s.staging := rfl
@[simp] theorem State.configure_completion (f : Settings → Settings) : (s.configure f).completion = s.completion := rfl
@[simp] theorem State.configure_dataPosition (f : Settings → Settings) : (s.configure f).dataPosition = s.dataPosition := rfl
@[simp] theorem State.configure_attentionRecord (f : Settings → Settings) : (s.configure f).attentionRecord = s.attentionRecord := rfl
@[simp] theorem State.configure_faultRegisters (f : Settings → Settings) : (s.configure f).faultRegisters = s.faultRegisters := rfl
@[simp] theorem State.configure_settings (f : Settings → Settings) : (s.configure f).settings = f s.settings := rfl
@[simp] theorem State.configure_stationSelect (f : Settings → Settings) : (s.configure f).stationSelect = s.stationSelect := rfl
@[simp] theorem State.configure_latched (f : Settings → Settings) : (s.configure f).latched = s.latched := rfl
@[simp] theorem State.configure_enables (f : Settings → Settings) : (s.configure f).enables = s.enables := rfl
@[simp] theorem State.configure_access (f : Settings → Settings) : (s.configure f).access = s.access := rfl
@[simp] theorem State.configure_portWaiting (f : Settings → Settings) : (s.configure f).portWaiting = s.portWaiting := rfl
@[simp] theorem State.configure_dataOut (f : Settings → Settings) : (s.configure f).dataOut = s.dataOut := rfl
@[simp] theorem State.configure_windowStatus (f : Settings → Settings) : (s.configure f).windowStatus = s.windowStatus := rfl
@[simp] theorem State.configure_requests (f : Settings → Settings) : (s.configure f).requests = s.requests := rfl
@[simp] theorem State.configure_completionList (f : Settings → Settings) : (s.configure f).completionList = s.completionList := rfl
@[simp] theorem State.configure_posted (f : Settings → Settings) : (s.configure f).posted = s.posted := rfl
@[simp] theorem State.configure_broadcastQueue (f : Settings → Settings) : (s.configure f).broadcastQueue = s.broadcastQueue := rfl
@[simp] theorem State.configure_nextOrder (f : Settings → Settings) : (s.configure f).nextOrder = s.nextOrder := rfl
@[simp] theorem State.configure_stations (f : Settings → Settings) : (s.configure f).stations = s.stations := rfl
@[simp] theorem State.configure_link (f : Settings → Settings) : (s.configure f).link = s.link := rfl
@[simp] theorem State.configure_pass (f : Settings → Settings) : (s.configure f).pass = s.pass := rfl
@[simp] theorem State.configure_highPosition (f : Settings → Settings) : (s.configure f).highPosition = s.highPosition := rfl
@[simp] theorem State.configure_lowPosition (f : Settings → Settings) : (s.configure f).lowPosition = s.lowPosition := rfl
@[simp] theorem State.configure_starvation (f : Settings → Settings) : (s.configure f).starvation = s.starvation := rfl
@[simp] theorem State.configure_exchange (f : Settings → Settings) : (s.configure f).exchange = s.exchange := rfl
@[simp] theorem State.configure_attention (f : Settings → Settings) : (s.configure f).attention = s.attention := rfl
@[simp] theorem State.configure_faults (f : Settings → Settings) : (s.configure f).faults = s.faults := rfl
@[simp] theorem State.configure_dropped (f : Settings → Settings) : (s.configure f).dropped = s.dropped := rfl
@[simp] theorem State.configure_holdInput (f : Settings → Settings) : (s.configure f).holdInput = s.holdInput := rfl
@[simp] theorem State.configure_resetInput (f : Settings → Settings) : (s.configure f).resetInput = s.resetInput := rfl

/-! ### endRead -/

@[simp] theorem State.endRead_pending (w : Word) (o : WindowOutcome) : (s.endRead w o).pending = s.pending := rfl
@[simp] theorem State.endRead_command (w : Word) (o : WindowOutcome) : (s.endRead w o).command = s.command := rfl
@[simp] theorem State.endRead_result (w : Word) (o : WindowOutcome) : (s.endRead w o).result = s.result := rfl
@[simp] theorem State.endRead_parameter (w : Word) (o : WindowOutcome) : (s.endRead w o).parameter = s.parameter := rfl
@[simp] theorem State.endRead_submitTag (w : Word) (o : WindowOutcome) : (s.endRead w o).submitTag = s.submitTag := rfl
@[simp] theorem State.endRead_staging (w : Word) (o : WindowOutcome) : (s.endRead w o).staging = s.staging := rfl
@[simp] theorem State.endRead_completion (w : Word) (o : WindowOutcome) : (s.endRead w o).completion = s.completion := rfl
@[simp] theorem State.endRead_dataPosition (w : Word) (o : WindowOutcome) : (s.endRead w o).dataPosition = s.dataPosition := rfl
@[simp] theorem State.endRead_attentionRecord (w : Word) (o : WindowOutcome) : (s.endRead w o).attentionRecord = s.attentionRecord := rfl
@[simp] theorem State.endRead_faultRegisters (w : Word) (o : WindowOutcome) : (s.endRead w o).faultRegisters = s.faultRegisters := rfl
@[simp] theorem State.endRead_settings (w : Word) (o : WindowOutcome) : (s.endRead w o).settings = s.settings := rfl
@[simp] theorem State.endRead_stationSelect (w : Word) (o : WindowOutcome) : (s.endRead w o).stationSelect = s.stationSelect := rfl
@[simp] theorem State.endRead_latched (w : Word) (o : WindowOutcome) : (s.endRead w o).latched = s.latched := rfl
@[simp] theorem State.endRead_enables (w : Word) (o : WindowOutcome) : (s.endRead w o).enables = s.enables := rfl
@[simp] theorem State.endRead_access (w : Word) (o : WindowOutcome) : (s.endRead w o).access = s.access := rfl
@[simp] theorem State.endRead_portWaiting (w : Word) (o : WindowOutcome) : (s.endRead w o).portWaiting = s.portWaiting := rfl
@[simp] theorem State.endRead_dataOut (w : Word) (o : WindowOutcome) : (s.endRead w o).dataOut = some w := rfl
@[simp] theorem State.endRead_windowStatus (w : Word) (o : WindowOutcome) : (s.endRead w o).windowStatus = { s.windowStatus with last := o } := rfl
@[simp] theorem State.endRead_requests (w : Word) (o : WindowOutcome) : (s.endRead w o).requests = s.requests := rfl
@[simp] theorem State.endRead_completionList (w : Word) (o : WindowOutcome) : (s.endRead w o).completionList = s.completionList := rfl
@[simp] theorem State.endRead_posted (w : Word) (o : WindowOutcome) : (s.endRead w o).posted = s.posted := rfl
@[simp] theorem State.endRead_broadcastQueue (w : Word) (o : WindowOutcome) : (s.endRead w o).broadcastQueue = s.broadcastQueue := rfl
@[simp] theorem State.endRead_nextOrder (w : Word) (o : WindowOutcome) : (s.endRead w o).nextOrder = s.nextOrder := rfl
@[simp] theorem State.endRead_stations (w : Word) (o : WindowOutcome) : (s.endRead w o).stations = s.stations := rfl
@[simp] theorem State.endRead_link (w : Word) (o : WindowOutcome) : (s.endRead w o).link = s.link := rfl
@[simp] theorem State.endRead_pass (w : Word) (o : WindowOutcome) : (s.endRead w o).pass = s.pass := rfl
@[simp] theorem State.endRead_highPosition (w : Word) (o : WindowOutcome) : (s.endRead w o).highPosition = s.highPosition := rfl
@[simp] theorem State.endRead_lowPosition (w : Word) (o : WindowOutcome) : (s.endRead w o).lowPosition = s.lowPosition := rfl
@[simp] theorem State.endRead_starvation (w : Word) (o : WindowOutcome) : (s.endRead w o).starvation = s.starvation := rfl
@[simp] theorem State.endRead_exchange (w : Word) (o : WindowOutcome) : (s.endRead w o).exchange = s.exchange := rfl
@[simp] theorem State.endRead_attention (w : Word) (o : WindowOutcome) : (s.endRead w o).attention = s.attention := rfl
@[simp] theorem State.endRead_faults (w : Word) (o : WindowOutcome) : (s.endRead w o).faults = s.faults := rfl
@[simp] theorem State.endRead_dropped (w : Word) (o : WindowOutcome) : (s.endRead w o).dropped = s.dropped := rfl
@[simp] theorem State.endRead_holdInput (w : Word) (o : WindowOutcome) : (s.endRead w o).holdInput = s.holdInput := rfl
@[simp] theorem State.endRead_resetInput (w : Word) (o : WindowOutcome) : (s.endRead w o).resetInput = s.resetInput := rfl

/-! ### enqueue -/

@[simp] theorem State.enqueue_pending (i : StationId) (x : EntryRef) : (s.enqueue i x).pending = s.pending := rfl
@[simp] theorem State.enqueue_command (i : StationId) (x : EntryRef) : (s.enqueue i x).command = s.command := rfl
@[simp] theorem State.enqueue_result (i : StationId) (x : EntryRef) : (s.enqueue i x).result = s.result := rfl
@[simp] theorem State.enqueue_parameter (i : StationId) (x : EntryRef) : (s.enqueue i x).parameter = s.parameter := rfl
@[simp] theorem State.enqueue_submitTag (i : StationId) (x : EntryRef) : (s.enqueue i x).submitTag = s.submitTag := rfl
@[simp] theorem State.enqueue_staging (i : StationId) (x : EntryRef) : (s.enqueue i x).staging = s.staging := rfl
@[simp] theorem State.enqueue_completion (i : StationId) (x : EntryRef) : (s.enqueue i x).completion = s.completion := rfl
@[simp] theorem State.enqueue_dataPosition (i : StationId) (x : EntryRef) : (s.enqueue i x).dataPosition = s.dataPosition := rfl
@[simp] theorem State.enqueue_attentionRecord (i : StationId) (x : EntryRef) : (s.enqueue i x).attentionRecord = s.attentionRecord := rfl
@[simp] theorem State.enqueue_faultRegisters (i : StationId) (x : EntryRef) : (s.enqueue i x).faultRegisters = s.faultRegisters := rfl
@[simp] theorem State.enqueue_settings (i : StationId) (x : EntryRef) : (s.enqueue i x).settings = s.settings := rfl
@[simp] theorem State.enqueue_stationSelect (i : StationId) (x : EntryRef) : (s.enqueue i x).stationSelect = s.stationSelect := rfl
@[simp] theorem State.enqueue_latched (i : StationId) (x : EntryRef) : (s.enqueue i x).latched = s.latched := rfl
@[simp] theorem State.enqueue_enables (i : StationId) (x : EntryRef) : (s.enqueue i x).enables = s.enables := rfl
@[simp] theorem State.enqueue_access (i : StationId) (x : EntryRef) : (s.enqueue i x).access = s.access := rfl
@[simp] theorem State.enqueue_portWaiting (i : StationId) (x : EntryRef) : (s.enqueue i x).portWaiting = s.portWaiting := rfl
@[simp] theorem State.enqueue_dataOut (i : StationId) (x : EntryRef) : (s.enqueue i x).dataOut = s.dataOut := rfl
@[simp] theorem State.enqueue_windowStatus (i : StationId) (x : EntryRef) : (s.enqueue i x).windowStatus = s.windowStatus := rfl
@[simp] theorem State.enqueue_requests (i : StationId) (x : EntryRef) : (s.enqueue i x).requests = s.requests := rfl
@[simp] theorem State.enqueue_completionList (i : StationId) (x : EntryRef) : (s.enqueue i x).completionList = s.completionList := rfl
@[simp] theorem State.enqueue_posted (i : StationId) (x : EntryRef) : (s.enqueue i x).posted = s.posted := rfl
@[simp] theorem State.enqueue_broadcastQueue (i : StationId) (x : EntryRef) : (s.enqueue i x).broadcastQueue = s.broadcastQueue := rfl
@[simp] theorem State.enqueue_nextOrder (i : StationId) (x : EntryRef) : (s.enqueue i x).nextOrder = s.nextOrder := rfl
@[simp] theorem State.enqueue_link (i : StationId) (x : EntryRef) : (s.enqueue i x).link = s.link := rfl
@[simp] theorem State.enqueue_pass (i : StationId) (x : EntryRef) : (s.enqueue i x).pass = s.pass := rfl
@[simp] theorem State.enqueue_highPosition (i : StationId) (x : EntryRef) : (s.enqueue i x).highPosition = s.highPosition := rfl
@[simp] theorem State.enqueue_lowPosition (i : StationId) (x : EntryRef) : (s.enqueue i x).lowPosition = s.lowPosition := rfl
@[simp] theorem State.enqueue_starvation (i : StationId) (x : EntryRef) : (s.enqueue i x).starvation = s.starvation := rfl
@[simp] theorem State.enqueue_exchange (i : StationId) (x : EntryRef) : (s.enqueue i x).exchange = s.exchange := rfl
@[simp] theorem State.enqueue_attention (i : StationId) (x : EntryRef) : (s.enqueue i x).attention = s.attention := rfl
@[simp] theorem State.enqueue_faults (i : StationId) (x : EntryRef) : (s.enqueue i x).faults = s.faults := rfl
@[simp] theorem State.enqueue_dropped (i : StationId) (x : EntryRef) : (s.enqueue i x).dropped = s.dropped := rfl
@[simp] theorem State.enqueue_holdInput (i : StationId) (x : EntryRef) : (s.enqueue i x).holdInput = s.holdInput := rfl
@[simp] theorem State.enqueue_resetInput (i : StationId) (x : EntryRef) : (s.enqueue i x).resetInput = s.resetInput := rfl

/-! ### dequeue -/

@[simp] theorem State.dequeue_pending (i : StationId) (x : EntryRef) : (s.dequeue i x).pending = s.pending := rfl
@[simp] theorem State.dequeue_command (i : StationId) (x : EntryRef) : (s.dequeue i x).command = s.command := rfl
@[simp] theorem State.dequeue_result (i : StationId) (x : EntryRef) : (s.dequeue i x).result = s.result := rfl
@[simp] theorem State.dequeue_parameter (i : StationId) (x : EntryRef) : (s.dequeue i x).parameter = s.parameter := rfl
@[simp] theorem State.dequeue_submitTag (i : StationId) (x : EntryRef) : (s.dequeue i x).submitTag = s.submitTag := rfl
@[simp] theorem State.dequeue_staging (i : StationId) (x : EntryRef) : (s.dequeue i x).staging = s.staging := rfl
@[simp] theorem State.dequeue_completion (i : StationId) (x : EntryRef) : (s.dequeue i x).completion = s.completion := rfl
@[simp] theorem State.dequeue_dataPosition (i : StationId) (x : EntryRef) : (s.dequeue i x).dataPosition = s.dataPosition := rfl
@[simp] theorem State.dequeue_attentionRecord (i : StationId) (x : EntryRef) : (s.dequeue i x).attentionRecord = s.attentionRecord := rfl
@[simp] theorem State.dequeue_faultRegisters (i : StationId) (x : EntryRef) : (s.dequeue i x).faultRegisters = s.faultRegisters := rfl
@[simp] theorem State.dequeue_settings (i : StationId) (x : EntryRef) : (s.dequeue i x).settings = s.settings := rfl
@[simp] theorem State.dequeue_stationSelect (i : StationId) (x : EntryRef) : (s.dequeue i x).stationSelect = s.stationSelect := rfl
@[simp] theorem State.dequeue_latched (i : StationId) (x : EntryRef) : (s.dequeue i x).latched = s.latched := rfl
@[simp] theorem State.dequeue_enables (i : StationId) (x : EntryRef) : (s.dequeue i x).enables = s.enables := rfl
@[simp] theorem State.dequeue_access (i : StationId) (x : EntryRef) : (s.dequeue i x).access = s.access := rfl
@[simp] theorem State.dequeue_portWaiting (i : StationId) (x : EntryRef) : (s.dequeue i x).portWaiting = s.portWaiting := rfl
@[simp] theorem State.dequeue_dataOut (i : StationId) (x : EntryRef) : (s.dequeue i x).dataOut = s.dataOut := rfl
@[simp] theorem State.dequeue_windowStatus (i : StationId) (x : EntryRef) : (s.dequeue i x).windowStatus = s.windowStatus := rfl
@[simp] theorem State.dequeue_requests (i : StationId) (x : EntryRef) : (s.dequeue i x).requests = s.requests := rfl
@[simp] theorem State.dequeue_completionList (i : StationId) (x : EntryRef) : (s.dequeue i x).completionList = s.completionList := rfl
@[simp] theorem State.dequeue_posted (i : StationId) (x : EntryRef) : (s.dequeue i x).posted = s.posted := rfl
@[simp] theorem State.dequeue_broadcastQueue (i : StationId) (x : EntryRef) : (s.dequeue i x).broadcastQueue = s.broadcastQueue := rfl
@[simp] theorem State.dequeue_nextOrder (i : StationId) (x : EntryRef) : (s.dequeue i x).nextOrder = s.nextOrder := rfl
@[simp] theorem State.dequeue_link (i : StationId) (x : EntryRef) : (s.dequeue i x).link = s.link := rfl
@[simp] theorem State.dequeue_pass (i : StationId) (x : EntryRef) : (s.dequeue i x).pass = s.pass := rfl
@[simp] theorem State.dequeue_highPosition (i : StationId) (x : EntryRef) : (s.dequeue i x).highPosition = s.highPosition := rfl
@[simp] theorem State.dequeue_lowPosition (i : StationId) (x : EntryRef) : (s.dequeue i x).lowPosition = s.lowPosition := rfl
@[simp] theorem State.dequeue_starvation (i : StationId) (x : EntryRef) : (s.dequeue i x).starvation = s.starvation := rfl
@[simp] theorem State.dequeue_exchange (i : StationId) (x : EntryRef) : (s.dequeue i x).exchange = s.exchange := rfl
@[simp] theorem State.dequeue_attention (i : StationId) (x : EntryRef) : (s.dequeue i x).attention = s.attention := rfl
@[simp] theorem State.dequeue_faults (i : StationId) (x : EntryRef) : (s.dequeue i x).faults = s.faults := rfl
@[simp] theorem State.dequeue_dropped (i : StationId) (x : EntryRef) : (s.dequeue i x).dropped = s.dropped := rfl
@[simp] theorem State.dequeue_holdInput (i : StationId) (x : EntryRef) : (s.dequeue i x).holdInput = s.holdInput := rfl
@[simp] theorem State.dequeue_resetInput (i : StationId) (x : EntryRef) : (s.dequeue i x).resetInput = s.resetInput := rfl

end Sys2Proof.Machine
end

