-- ==== Sys2Proof/Laws/Ops.lean ====
section
/-! SUPPORT. What each shared operation does, said once: its effect on the rows of the tables and on the queues. Proofs
about commands cite these and do not unfold the operations. -/

namespace Sys2Proof.Machine

/-! ### Tables -/

@[simp] theorem tabulate_get {α : Type} {n : Nat} (f : Fin n → α) (i : Fin n) : (tabulate f)[i] = f i := by
  simp [tabulate]

@[simp] theorem request_putRequest (s : State) (t u : Tag) (r : Option Request) :
    (s.putRequest t r).request u = if t = u then r else s.request u := by
  simp [State.request, State.putRequest, Vector.getElem_set, Fin.ext_iff]

@[simp] theorem postedEntry_putPosted (s : State) (p q : PostedIndex) (e : Option Posted) :
    (s.putPosted p e).postedEntry q = if p = q then e else s.postedEntry q := by
  simp [State.postedEntry, State.putPosted, Vector.getElem_set, Fin.ext_iff]

@[simp] theorem station_updateStation (s : State) (i j : StationId) (f : Station → Station) :
    (s.updateStation i f).station j = if i = j then f (s.station i) else s.station j := by
  simp [State.station, State.updateStation, Vector.getElem_set, Fin.ext_iff]

theorem request_updateRequest (s : State) (t u : Tag) (f : Request → Request) :
    (s.updateRequest t f).request u = if t = u then (s.request t).map f else s.request u := by
  unfold State.updateRequest
  cases h : s.request t with
  | none =>
    by_cases e : t = u
    · subst e; simp [h]
    · simp [e]
  | some r => simp

theorem postedEntry_updatePosted (s : State) (p q : PostedIndex) (f : Posted → Posted) :
    (s.updatePosted p f).postedEntry q = if p = q then (s.postedEntry p).map f else s.postedEntry q := by
  unfold State.updatePosted
  cases h : s.postedEntry p with
  | none =>
    by_cases e : p = q
    · subst e; simp [h]
    · simp [e]
  | some r => simp

/-- Putting back the row a table holds changes nothing. -/
theorem putRequest_same (s : State) (t : Tag) : s.putRequest t (s.request t) = s := by
  simp [State.putRequest, State.request]

theorem putPosted_same (s : State) (p : PostedIndex) : s.putPosted p (s.postedEntry p) = s := by
  simp [State.putPosted, State.postedEntry]

/-- Two states with the same rows have the same Request Table. -/
theorem requests_ext {s t : State} (h : ∀ u, s.request u = t.request u) : s.requests = t.requests := by
  apply Vector.ext
  intro k hk
  exact h ⟨k, hk⟩

theorem posted_ext {s t : State} (h : ∀ p, s.postedEntry p = t.postedEntry p) : s.posted = t.posted := by
  apply Vector.ext
  intro k hk
  exact h ⟨k, hk⟩

theorem stations_ext {s t : State} (h : ∀ i, s.station i = t.station i) : s.stations = t.stations := by
  apply Vector.ext
  intro k hk
  exact h ⟨k, hk⟩

/-- The lowest-numbered FREE entry: it is FREE and every lower one is not. -/
theorem firstFree_eq_some {α : Type} {table : Vector (Option α) 16} {i : Fin 16} (h : firstFree table = some i) :
    table[i] = none ∧ ∀ j : Fin 16, j < i → table[j] ≠ none := by
  unfold firstFree at h
  obtain ⟨hi, as, bs, hl, hn⟩ := List.find?_eq_some_iff_append.mp h
  refine ⟨by simpa using hi, fun j hj => ?_⟩
  have hmem : j ∈ as := by
    have hs : (List.finRange 16).Pairwise (· < ·) := List.pairwise_lt_finRange 16
    have : j ∈ as ++ i :: bs := hl ▸ List.mem_finRange j
    rw [hl] at hs
    rcases List.mem_append.mp this with ha | hb
    · exact ha
    · have hs2 := (List.pairwise_append.mp hs).2.1
      rcases List.mem_cons.mp hb with rfl | hb
      · exact absurd hj (lt_irrefl _)
      · exact absurd (List.rel_of_pairwise_cons hs2 hb) (not_lt.mpr hj.le)
  have := hn j hmem
  rw [Bool.not_eq_true', Option.isNone_eq_false_iff] at this
  exact Option.isSome_iff_ne_none.mp this

/-- No entry is FREE. -/
theorem firstFree_eq_none {α : Type} {table : Vector (Option α) 16} :
    firstFree table = none ↔ ∀ i : Fin 16, table[i] ≠ none := by
  simp [firstFree, List.find?_eq_none]

/-! ### The order of acceptance -/

theorem byOrder_perm {α : Type} (members : List (Nat × α)) : (byOrder members).Perm (members.map Prod.snd) :=
  (List.perm_insertionSort _ members).map _

/-- The members come out with their places rising. -/
theorem byOrder_sorted {α : Type} (members : List (Nat × α)) :
    ∃ l : List (Nat × α), l.Perm members ∧ byOrder members = l.map Prod.snd ∧ l.Pairwise fun a b => a.1 ≤ b.1 := by
  have : Std.Total fun a b : Nat × α => a.1 ≤ b.1 := ⟨fun a b => le_total a.1 b.1⟩
  have : IsTrans (Nat × α) fun a b => a.1 ≤ b.1 := ⟨fun _ _ _ h k => le_trans h k⟩
  exact ⟨_, List.perm_insertionSort _ members, rfl, List.pairwise_insertionSort _ members⟩

/-! ### Queues -/

theorem queue_enqueue (s : State) (i j : StationId) (x : EntryRef) :
    ((s.enqueue i x).station j).queue = if i = j then (s.station i).queue ++ [x] else (s.station j).queue := by
  unfold State.enqueue
  rw [station_updateStation]
  split <;> rfl

theorem queue_dequeue (s : State) (i j : StationId) (x : EntryRef) :
    ((s.dequeue i x).station j).queue = if i = j then (s.station i).queue.erase x else (s.station j).queue := by
  unfold State.dequeue
  rw [station_updateStation]
  split <;> rfl

@[simp] theorem request_enqueue (s : State) (i : StationId) (x : EntryRef) (u : Tag) :
    (s.enqueue i x).request u = s.request u := rfl

@[simp] theorem request_dequeue (s : State) (i : StationId) (x : EntryRef) (u : Tag) :
    (s.dequeue i x).request u = s.request u := rfl

@[simp] theorem postedEntry_enqueue (s : State) (i : StationId) (x : EntryRef) (p : PostedIndex) :
    (s.enqueue i x).postedEntry p = s.postedEntry p := rfl

@[simp] theorem postedEntry_dequeue (s : State) (i : StationId) (x : EntryRef) (p : PostedIndex) :
    (s.dequeue i x).postedEntry p = s.postedEntry p := rfl

/-- Taking out what does not stand in a queue changes nothing. -/
theorem dequeue_of_not_mem (s : State) (i : StationId) (x : EntryRef) (h : x ∉ (s.station i).queue) :
    s.dequeue i x = s := by
  have e : ({ s.station i with queue := (s.station i).queue.erase x } : Station) = s.station i := by
    rw [List.erase_of_not_mem h]
  have hs : (s.dequeue i x).stations = s.stations := by
    apply stations_ext
    intro j
    show ((s.updateStation i fun st => { st with queue := st.queue.erase x }).station j) = s.station j
    rw [station_updateStation]
    split
    · rename_i hij
      subst hij
      exact e
    · rfl
  calc s.dequeue i x = { s with stations := (s.dequeue i x).stations } := rfl
    _ = s := by rw [hs]

/-! ### Acceptance -/

theorem request_acceptRequest (t u : Tag) (r : Request) (s : State) :
    (acceptRequest t r s).request u = if t = u then some { r with order := s.nextOrder } else s.request u := by
  have h : (acceptRequest t r s).request u = (s.putRequest t (some { r with order := s.nextOrder })).request u := rfl
  rw [h, request_putRequest]

theorem station_acceptRequest (t : Tag) (r : Request) (s : State) (i : StationId) :
    (acceptRequest t r s).station i = (s.enqueue r.station (.request t)).station i := rfl

theorem postedEntry_acceptPosted (p q : PostedIndex) (e : Posted) (s : State) :
    (acceptPosted p e s).postedEntry q = if p = q then some { e with order := s.nextOrder } else s.postedEntry q := by
  have h : (acceptPosted p e s).postedEntry q =
      (s.putPosted p (some { e with order := s.nextOrder })).postedEntry q := by
    unfold acceptPosted State.enqueuePosted
    cases e.target <;> rfl
  rw [h, postedEntry_putPosted]

@[simp] theorem request_acceptPosted (p : PostedIndex) (e : Posted) (s : State) (u : Tag) :
    (acceptPosted p e s).request u = s.request u := by
  unfold acceptPosted State.enqueuePosted
  cases e.target <;> rfl

/-! ### Completion and freeing -/

/-- What the completion of an unfinished PORT entry does. -/
theorem completeRequest_port {t : Tag} {s : State} {r : Request} (status : Status) (h : s.request t = some r)
    (hu : r.unfinished = true) (hp : r.origin = .port) :
    completeRequest t status s =
      { (s.dequeue r.station (.request t)).putRequest t (some { r with state := .done status }) with
        completionList := s.completionList ++ [t] } := by
  unfold completeRequest
  simp only [h, hu, hp, if_true]
  rfl

/-- A finished or FREE entry does not complete again. -/
theorem completeRequest_finished {t : Tag} {s : State} (status : Status)
    (h : ∀ r, s.request t = some r → r.unfinished = false) : completeRequest t status s = s := by
  unfold completeRequest
  cases hr : s.request t with
  | none => rfl
  | some r => simp [h r hr]

/-- A completion touches no other entry. -/
theorem request_completeRequest_other {t u : Tag} (status : Status) (s : State) (h : t ≠ u) :
    (completeRequest t status s).request u = s.request u := by
  have key : ∀ (a : State) (row : Option Request), a.request u = s.request u →
      (a.putRequest t row).request u = s.request u := by
    intro a row ha
    rw [request_putRequest, if_neg h, ha]
  unfold completeRequest
  split
  · rfl
  · split
    · split
      · exact key (s.dequeue _ _) _ rfl
      · dsimp only
        split
        · split <;> exact key _ _ rfl
        · split <;> exact key _ _ rfl
    · rfl

@[simp] theorem postedEntry_completeRequest (t : Tag) (status : Status) (s : State) (p : PostedIndex) :
    (completeRequest t status s).postedEntry p = s.postedEntry p := by
  unfold completeRequest
  split
  · rfl
  · split
    · split
      · rfl
      · dsimp only
        split <;> split <;> rfl
    · rfl

theorem request_freeRequest (t u : Tag) (s : State) :
    (freeRequest t s).request u = if t = u then none else s.request u := by
  unfold freeRequest
  cases h : s.request t with
  | none =>
    by_cases e : t = u
    · subst e; simp [h]
    · simp [e]
  | some r => simp

@[simp] theorem postedEntry_freeRequest (t : Tag) (s : State) (p : PostedIndex) :
    (freeRequest t s).postedEntry p = s.postedEntry p := by
  unfold freeRequest
  cases s.request t <;> rfl

@[simp] theorem request_appendFault (s : State) (f : FaultRecord) (u : Tag) :
    (s.appendFault f).request u = s.request u := by
  unfold State.appendFault
  split <;> rfl

@[simp] theorem postedEntry_appendFault (s : State) (f : FaultRecord) (p : PostedIndex) :
    (s.appendFault f).postedEntry p = s.postedEntry p := by
  unfold State.appendFault
  split <;> rfl

@[simp] theorem station_appendFault (s : State) (f : FaultRecord) (i : StationId) :
    (s.appendFault f).station i = s.station i := by
  unfold State.appendFault
  split <;> rfl

theorem postedEntry_freePosted (p q : PostedIndex) (cause : Option FaultCause) (s : State) :
    (freePosted p cause s).postedEntry q = if p = q then none else s.postedEntry q := by
  unfold freePosted
  cases h : s.postedEntry p with
  | none =>
    by_cases e : p = q
    · subst e; simp [h]
    · simp [e]
  | some e =>
    cases cause <;> simp <;> cases e.target <;> rfl

@[simp] theorem request_freePosted (p : PostedIndex) (cause : Option FaultCause) (s : State) (u : Tag) :
    (freePosted p cause s).request u = s.request u := by
  unfold freePosted
  cases s.postedEntry p with
  | none => rfl
  | some e => cases cause <;> simp <;> cases e.target <;> rfl

/-! ### Stale marking and closure -/

@[simp] theorem request_markStale (target : Target) (s : State) (u : Tag) :
    (markStale target s).request u = staleRow target (s.request u) := tabulate_get _ u

@[simp] theorem postedEntry_closeOpen (s : State) (p : PostedIndex) :
    (closeOpen s).postedEntry p = closedRow (s.postedEntry p) := tabulate_get _ p

@[simp] theorem request_closeOpen (s : State) (u : Tag) : (closeOpen s).request u = s.request u := rfl

@[simp] theorem station_closeOpen (s : State) (i : StationId) : (closeOpen s).station i = s.station i := rfl

/-- The closure keeps the words of every entry, and so the pool. -/
@[simp] theorem poolUsed_closeOpen (s : State) : (closeOpen s).poolUsed = s.poolUsed := by
  unfold State.poolUsed
  congr 1
  apply List.map_congr_left
  intro p _
  simp only [postedEntry_closeOpen]
  cases s.postedEntry p with
  | none => rfl
  | some e => simp only [closedRow]; split <;> rename_i h <;> (try split at h) <;> (simp_all [Posted.count]; try (subst h; rfl))

/-- A closure with no OPEN entry changes nothing. -/
theorem closeOpen_of_none {s : State} (h : ∀ p e, s.postedEntry p = some e → e.state ≠ .opened) : closeOpen s = s := by
  have : (closeOpen s).posted = s.posted := by
    apply posted_ext
    intro p
    rw [postedEntry_closeOpen]
    cases hp : s.postedEntry p with
    | none => rfl
    | some e => simp [closedRow, h p e hp]
  calc closeOpen s = { s with posted := (closeOpen s).posted } := rfl
    _ = s := by rw [this]

/-! ### The port -/

theorem onPort_reset {a : HostAccess} {effect : State → State} {s : State} (h : s.resetInput = true) :
    onPort a effect s = s := by
  simp [onPort, h]

theorem onPort_busy {a : HostAccess} {effect : State → State} {s : State} (hr : s.resetInput = false)
    (h : s.access ≠ none ∨ s.portWaiting ≠ []) :
    onPort a effect s = { s with portWaiting := s.portWaiting ++ [a] } := by
  have hb : s.portBusy = true := by
    rcases h with h | h
    · simp [State.portBusy, Option.isSome_iff_ne_none.mpr h]
    · simp [State.portBusy, List.isEmpty_eq_false_iff.mpr h]
  simp [onPort, hr, hb]

theorem onPort_ready {a : HostAccess} {effect : State → State} {s : State} (hr : s.resetInput = false)
    (h : s.access = none) (hw : s.portWaiting = []) : onPort a effect s = effect s := by
  simp [onPort, State.portBusy, hr, h, hw]

/-- When no command waits and the port is free, the oldest stretched access is taken. -/
theorem whenIdle_of_waiting {s : State} {a : HostAccess} {rest : List HostAccess} (hr : s.resetInput = false)
    (ha : s.access = none) (hw : s.portWaiting = a :: rest) :
    whenIdle s = takeAccess a { s with portWaiting := rest } := by
  simp [whenIdle, State.takesWaiting, takeWaiting, hr, ha, hw]

/-- When no command waits and no stretched access can be taken, the timebase ticks. -/
theorem whenIdle_of_not {s : State} (h : s.resetInput = true ∨ s.access ≠ none ∨ s.portWaiting = []) :
    whenIdle s = tick s := by
  have : s.takesWaiting = false := by
    rcases h with h | h | h
    · simp [State.takesWaiting, h]
    · simp [State.takesWaiting, Option.isNone_eq_false_iff.mpr (Option.isSome_iff_ne_none.mpr h)]
    · simp [State.takesWaiting, h]
  simp [whenIdle, this]

/-- With no access held there is none to settle. -/
theorem settleHeld_of_none {s : State} (h : s.access = none) : settleHeld s = s := by
  simp [settleHeld, answerHeldRead, dropHeldWrite, giveHeldWriteSpace, h]

theorem drainIfIdle_of_not {s : State} (h : s.link ≠ .draining) : drainIfIdle s = s := by
  simp [drainIfIdle, h]

theorem advancePass_of_up {x : Exchange} {s : State} (h : s.link = .up) : advancePass x s = s := by
  simp [advancePass, h]

/-- While the link is UP and no access is held, the end of an exchange is its outcome. -/
theorem endExchange_quiet {x : Exchange} {outcome : State → State} {s : State}
    (hl : (outcome { s with exchange := none }).link = .up)
    (ha : (outcome { s with exchange := none }).access = none) :
    endExchange x outcome s = outcome { s with exchange := none } := by
  unfold endExchange
  rw [settleHeld_of_none ha, advancePass_of_up hl, drainIfIdle_of_not (by rw [hl]; decide)]

theorem drainIfIdle_of_draining {s : State} (hl : s.link = .draining) (hx : s.exchange = none) :
    drainIfIdle s = drain s := by
  simp [drainIfIdle, hl, hx]

theorem advancePass_of_draining {x : Exchange} {s : State} (h : s.link = .draining) : advancePass x s = s := by
  simp [advancePass, h]

/-- While the link is DRAINING, the end of an exchange is its outcome, the settling of the held access, and the drain. -/
theorem endExchange_draining {x : Exchange} {outcome : State → State} {s : State}
    (hl : (settleHeld (outcome { s with exchange := none })).link = .draining)
    (hx : (settleHeld (outcome { s with exchange := none })).exchange = none) :
    endExchange x outcome s = drain (settleHeld (outcome { s with exchange := none })) := by
  unfold endExchange
  rw [advancePass_of_draining hl, drainIfIdle_of_draining hl hx]

/-! ### Commands and addresses -/

theorem commandOf_commandCode (c : HostCommand) : commandOf (commandCode c) = some c := by
  cases c <;> decide

/-- A write of a command's code to COMMAND carries the command out. -/
theorem takeAccess_commandAccess (c : HostCommand) (s : State) : takeAccess (commandAccess c) s = runCommand c s := by
  have h : ((commandCode c).zeroExtend 16).extractLsb' 0 8 = commandCode c := by cases c <;> decide
  show commandWrite (((commandCode c).zeroExtend 16).extractLsb' 0 8) s = runCommand c s
  rw [h]
  simp [commandWrite, commandOf_commandCode]

theorem stationAt_stationAddress (i : StationId) : stationAt (stationAddress i) = some i := by
  unfold stationAt stationAddress
  simp

/-- The addresses 1..14 are those of the fourteen stations. -/
theorem stationAt_eq_some {n : Nat} {i : StationId} : stationAt n = some i ↔ stationAddress i = n := by
  constructor
  · intro h
    unfold stationAt at h
    split at h
    · rename_i hn
      cases h
      simp only [stationAddress]
      omega
    · cases h
  · rintro rfl
    exact stationAt_stationAddress i

theorem stationAt_eq_none {n : Nat} : stationAt n = none ↔ n = 0 ∨ 15 ≤ n := by
  unfold stationAt
  split <;> simp <;> omega

/-! ### The CRC -/

/-- A body sealed with its CRC is read back. -/
theorem checkedBody_sealed (words : List Word) : checkedBody (sealed words) = some words := by
  simp [checkedBody, sealed]

end Sys2Proof.Machine
end

