-- ==== Sys2Proof/Tests/Slice0.lean ====
section
/-! SUPPORT. The model's own tests: each command in one step on a small state, with the values of the spec's worked
examples where it has them, and a witness for the hypotheses of every statement of Obligations.lean. -/

set_option Elab.async false

namespace Sys2Proof.Tests

open Sys2Proof Sys2Proof.Machine Sys2Proof.Claims

/-! ### Small states -/

/-- The state a command leaves. -/
def after (c : Instr) (s : State) : State :=
  match exec c s with
  | .next t => t
  | .fault _ => s
  | .refused _ => s

/-- An ONLINE station of max burst 6 that is park capable and attention capable. -/
def live : Station :=
  { Station.reset with
    state := .online, maxBurst := 6, parkCapable := true, attentionCapable := true, lastSequence := 19#8 }

/-- The link UP with station 4 ONLINE. -/
def up : State := { State.reset with link := .up, stations := (Vector.replicate 14 Station.reset).set 3 live }

/-- A READ of 16 words from 1000h at station 4. -/
def readRequest : Request where
  origin := .port
  kind := .read
  station := 3
  start := 0x1000#16
  mode := .increment
  count := 16
  data := []
  wordsDone := 0
  state := .queued
  busyCount := 0
  cancelPending := false
  abandonPending := false
  order := 0

/-- The MODIFY of section 12.7: EQ, operand 0030h, compare mask 00F0h, new value 0500h, write mask 0F00h. -/
def modifyPart : ModifyPart where
  relation := .eq
  operand := 0x0030#16
  compareMask := 0x00F0#16
  newValue := 0x0500#16
  writeMask := 0x0F00#16
  phase := .read
  oldValue := none
  written := .no
  failedPhase := none

/-- That MODIFY as an entry. -/
def modifyRequest : Request := { readRequest with kind := .modify modifyPart, start := 0x0120#16, count := 1 }

/-- A window entry of one page from 0200h at station 4. -/
def windowRequest4 (w : WindowPart) : Request := { readRequest with origin := .window w, start := 0x0200#16 }

/-- A fresh window part. -/
def freshPart : WindowPart := { front := 0, stale := false, held := false, discard := none }

/-- A parked segment of six words with both timers running. -/
def parkPart : ParkPart :=
  { segment := { write := false, address := 0x1000#16, length := 6 }, park := some 50000, collect := .running 1000 }

/-- A POSTED WRITE of one word to station 4. -/
def postedWrite : Posted where
  origin := .port
  target := .station 3
  start := 0x0040#16
  mode := .increment
  data := [0x00AA#16]
  wordsDone := 0
  state := .queued
  busyCount := 0
  flushPending := false
  order := 1

/-- A BROADCAST WRITE of one word. -/
def broadcastWrite : Posted := { postedWrite with target := .broadcast }

/-- A request entry standing at the tail of its queue. -/
def standing (t : Tag) (r : Request) (s : State) : State :=
  { (s.putRequest t (some r)).enqueue r.station (.request t) with nextOrder := max s.nextOrder (r.order + 1) }

/-- A posted entry standing at the tail of its queue. -/
def standingPosted (p : PostedIndex) (e : Posted) (s : State) : State :=
  { (s.putPosted p (some e)).enqueuePosted e.target p with nextOrder := max s.nextOrder (e.order + 1) }

/-- A request entry that stands in no queue: DONE or DELIVERED. -/
def finished (t : Tag) (r : Request) (s : State) : State :=
  { s.putRequest t (some r) with nextOrder := max s.nextOrder (r.order + 1) }

/-- An exchange in its first attempt of four. -/
def exchangeOf (kind : ExchangeKind) (owner : Owner) (destination : Target) (frame : List Word) (phase : EnginePhase) :
    Exchange :=
  { kind := kind, owner := owner, destination := destination, frame := frame, attempt := 1, limit := 4, phase := phase }

/-- The exchange of the first segment of the READ in tag 0 (section 12.6): six words from 1000h. -/
def readExchange (phase : EnginePhase) : Exchange :=
  exchangeOf .readSegment (.request 0) (.station 3) (closed [header 4 1 false false true, 0x1000#16, 6#16]) phase

/-- The READ in tag 0 ACTIVE, its exchange in flight. -/
def reading (phase : EnginePhase) : State :=
  { standing 0 { readRequest with state := .active } up with exchange := some (readExchange phase) }

/-- A reception that is a frame with a good CRC. -/
def frameOf (words : List Word) : Reception :=
  { delimiterGood := true, codingGood := true, words := closed words, extraBits := 0 }

/-- A DATA of six words from 1000h from station 4. -/
def sixWords : Reception := frameOf [0x0480#16, 0x1000#16, 6#16, 1#16, 2#16, 3#16, 4#16, 5#16, 6#16]

/-- An ACK from station 4. -/
def ackFrame : Reception := frameOf [0x0490#16]

/-- A NAK from station 4. -/
def nakFrame (reason : Word) : Reception := frameOf [0x04A0#16, reason]

/-! ### Well-formedness refuses what is no operand of its row -/

theorem test_wf_refuses_a_command_code : (Instr.badCommand 0x10#8).wf = false := by decide
theorem test_wf_accepts_code_zero : (Instr.badCommand 0x00#8).wf = true := by decide
theorem test_wf_refuses_a_location_with_its_own_row : (Instr.registerWrite 0x0F#6 0#16).wf = false := by decide
theorem test_wf_refuses_an_aperture_location : (Instr.registerWrite 0x30#6 0#16).wf = false := by decide
theorem test_wf_accepts_a_plain_location : (Instr.registerWrite 0x2F#6 0#16).wf = true := by decide
theorem test_wf_refuses_sixteen_extra_bits :
    (Instr.receptionEnd { delimiterGood := true, codingGood := true, words := [], extraBits := 16 }).wf = false := by
  decide
theorem test_wf_refuses_extra_bits_of_a_discarded_frame :
    (Instr.discardedFrame { delimiterGood := true, codingGood := true, words := [], extraBits := 16 }).wf = false := by
  decide

/-! ### Decoding and the step -/

theorem test_no_word_spells_a_command : decodeTableWord 16 0x10 = none := rfl
theorem test_codes_name_their_commands : allCommands.map (fun c => commandOf (commandCode c)) = allCommands.map some := by
  decide
theorem test_step_takes_the_front : step { up with pending := [.holdAsserted, .grant] } =
    .next { up with pending := [.grant], holdInput := true } := rfl
theorem test_tick_counts_down_and_queues_expiries :
    let s := standing 0 { readRequest with state := .waiting 1 } (standing 1 { readRequest with state := .waiting 0 } up)
    step s = .next (tick s) ∧ (tick s).pending = [.busyBackoffExpiry (.request 1)] ∧
      ((tick s).request 0).map (·.state) = some (.waiting 0) := ⟨rfl, by decide +kernel, by decide +kernel⟩

/-! ### Frames: the CRC, and the values of the worked examples -/

/-- The CRC of the eight bytes 31h to 38h by R55's polynomial and start value, by hand: A12Bh. -/
theorem test_crc_of_eight_bytes : crc [0x3132#16, 0x3334#16, 0x3536#16, 0x3738#16] = 0xA12B#16 := by decide +kernel

/-- Section 6.9: the write value of old value 0FFF0h, new value 0005h and write mask 000Fh is 0FFF5h. -/
theorem test_write_value_of_6_9 : { modifyPart with
    oldValue := some 0xFFF0#16, newValue := 0x0005#16, writeMask := 0x000F#16 }.writeValue = 0xFFF5#16 := by decide

/-- The table of section 6.9, row by row, for old value 0FFF0h. -/
theorem test_relations_of_6_9 :
    ([(.eq, 0xFFF0#16, 0xFFFF#16), (.ltu, 0x0010#16, 0xFFFF#16), (.lts, 0x0010#16, 0xFFFF#16),
        (.lts, 0x0010#16, 0x7FFF#16), (.ges, 0x8000#16, 0xFFFF#16), (.ne, 0x0000#16, 0x000F#16),
        (.eq, 0x1234#16, 0x0000#16)] : List (Relation × Word × Word)).map
      (fun row => { modifyPart with relation := row.1, operand := row.2.1, compareMask := row.2.2 }.evaluate 0xFFF0#16) =
      [true, false, true, false, true, false, true] := by decide +kernel

/-! ### Host commands -/

/-- The staging area of a READ of 16 words from 1000h at station 4, as a host writes it. -/
def staged (kind count : Nat) : State :=
  { up with
    staging := { up.staging with kind := BitVec.ofNat 4 kind, station := 4#4, count := BitVec.ofNat 5 count,
                                 address := 0x1000#16 } }

theorem test_submit_takes_the_lowest_tag :
    (after .submit (staged 1 16)).request 0 = some readRequest ∧
      ((after .submit (staged 1 16)).station 3).queue = [.request 0] := by decide +kernel
theorem test_submit_refuses_count_17 : (after .submit (staged 1 17)).result = .badCount := by decide +kernel
theorem test_stage_clear_empties : (after .stageClear { up with
    staging := { up.staging with data := [1#16], overflow := true } }).readLocation 0x07#6 = 0#16 := by decide +kernel
theorem test_cancel_of_a_queued_entry :
    (after .cancel (standing 0 readRequest up)).completionList = [0] ∧
      ((after .cancel (standing 0 readRequest up)).station 3).queue = [] := by decide +kernel
theorem test_cancel_of_a_free_entry : (after .cancel up).result = .noSuchTag := by decide +kernel
theorem test_next_completion_latches_the_record :
    let s := { finished 0 { readRequest with state := .done .success, wordsDone := 16 } up with completionList := [0] }
    (after .nextCompletion s).readLocation 0x10#6 = 0x1410#16 ∧
      (after .nextCompletion s).readLocation 0x11#6 = 0x0010#16 := by decide +kernel
theorem test_next_completion_on_an_empty_list : (after .nextCompletion up).result = .empty := by decide +kernel
theorem test_release_frees_a_delivered_entry :
    (after .release (finished 0 { readRequest with state := .delivered .success } up)).request 0 = none := by
  decide +kernel
theorem test_release_of_a_done_entry :
    (after .release (finished 0 { readRequest with state := .done .success } up)).result = .wrongState := by
  decide +kernel
/-- Section 9.8: NEXT-ATTENTION with a backlogged station makes its poll due and stops its timer. -/
theorem test_next_attention_makes_backlogged_polls_due :
    let s := { up with
      attention := [{ station := 1, code := 40#8, occurrences := 1, info := 0#16 }]
      stations := up.stations.set 3 { live with backlog := true, pollTimer := some 10 } }
    (after .nextAttention s).attentionRecord.code = 40#8 ∧ ((after .nextAttention s).station 3).pollDue = true ∧
      ((after .nextAttention s).station 3).pollTimer = none := by decide +kernel
theorem test_next_attention_on_an_empty_queue : (after .nextAttention up).result = .empty := by decide +kernel
/-- Section 10.2: the dropped count is reported with the last record. -/
theorem test_next_fault_reports_the_drops :
    let s := { up with
      faults := [{ cause := .rejected, target := .broadcast, address := 0x40#16, wordsDone := 2 }], dropped := 7 }
    (after .nextFault s).readLocation 0x17#6 = 0x0F01#16 ∧ (after .nextFault s).readLocation 0x19#6 = 0x0702#16 ∧
      (after .nextFault s).dropped = 0 := by decide +kernel
theorem test_link_start_with_an_empty_mask :
    (after .linkStart State.reset).link = .up ∧ (after .linkStart State.reset).latched.link = true := by decide +kernel
/-- Section 12.5: the pass visits stations 2, 5 and 9. -/
theorem test_link_start_begins_the_pass :
    (after .linkStart (after (.registerWrite 0x2D#6 0x0224#16) State.reset)).pass = [1, 4, 8] := by decide +kernel
theorem test_link_stop_with_the_engine_idle :
    (after .linkStop (standing 0 readRequest up)).link = .down ∧
      ((after .linkStop (standing 0 readRequest up)).request 0).map (·.state) = some (.done .linkDown) := by
  decide +kernel
theorem test_link_stop_in_down : (after .linkStop State.reset).result = .wrongState := by decide +kernel
theorem test_station_hold_and_resume :
    let s := { up with parameter := 4#16 }
    ((after .stationHold s).station 3).held = true ∧ ((after .stationResume (after .stationHold s)).station 3).held = false :=
  by decide +kernel
theorem test_station_hold_of_station_15 : (after .stationHold { up with parameter := 15#16 }).result = .badStation := by
  decide +kernel
theorem test_station_flush_ends_the_queue :
    let s := { standingPosted 2 postedWrite (standing 0 readRequest up) with parameter := 4#16 }
    (after .stationFlush s).completionList = [0] ∧ (after .stationFlush s).faults.map (·.cause) = [.cancelled] := by
  decide +kernel
theorem test_station_rejoin_of_an_absent_station :
    ((after .stationRejoin { up with parameter := 9#16 }).station 8).state = .probing := by decide +kernel
theorem test_controller_reset_keeps_the_configuration :
    (after .controllerReset (after (.registerWrite 0x2A#6 0x0102#16) up)).readLocation 0x2A#6 = 0x0102#16 ∧
      (after .controllerReset up).link = .down := by decide +kernel
theorem test_bad_command : (after (.badCommand 0x7F#8) up).result = .badCommand ∧
    (after (.badCommand 0x7F#8) up).readLocation 0x03#6 = 0x007F#16 := by decide +kernel

/-! ### Register accesses -/

theorem test_stage_data_overflows_at_seventeen :
    let s := { up with staging := { up.staging with data := List.replicate 16 0#16 } }
    (after (.stageDataWrite 7#16) s).readLocation 0x07#6 = 0x0110#16 := by decide +kernel
/-- Section 12.6: the data port returns the words in order, and 0000h after the last. -/
theorem test_data_port_read :
    let s := finished 0 { readRequest with state := .delivered .success, wordsDone := 2, data := [7#16, 8#16] } up
    (after .dataPortRead s).dataOut = some 7#16 ∧ (after .dataPortRead (after .dataPortRead s)).dataOut = some 8#16 ∧
      (after .dataPortRead (after .dataPortRead (after .dataPortRead s))).dataOut = some 0#16 := by decide +kernel
theorem test_interrupt_cause_write_clears_latched_causes :
    (after (.interruptCauseWrite 0x0107#16) { up with
      latched := { station := true, link := true, window := false }, completionList := [0] }).readLocation 0x1D#6 =
      0x0201#16 := by decide +kernel
theorem test_interrupt_enable_write :
    (after (.interruptEnableWrite 0xFFFF#16) up).readLocation 0x1E#6 = 0x0707#16 := by decide +kernel
theorem test_window_status_write :
    (after (.windowStatusWrite 0x2000#16) { up with
      windowStatus := { last := .error .noResponse, deferredSeen := true, discardedSeen := true, droppedSeen := false } }
      ).readLocation 0x1F#6 = 0x4403#16 := by decide +kernel
theorem test_window_station_write_out_of_range :
    (after (.windowStationWrite 15#16) up).readLocation 0x20#6 = 1#16 := by decide +kernel
theorem test_page_base_write_ignores_low_bits :
    (after (.pageBaseWrite 0x020F#16) up).readLocation 0x21#6 = 0x0200#16 := by decide +kernel
theorem test_prefetch_write : (after (.prefetchWrite 1#16) up).settings.prefetch = true := by decide +kernel
theorem test_timebase_write :
    (after (.timebaseWrite 8#16) State.reset).readLocation 0x27#6 = 8#16 ∧
      (after (.timebaseWrite 33#16) State.reset).readLocation 0x27#6 = 16#16 ∧
      (after (.timebaseWrite 8#16) up).readLocation 0x27#6 = 16#16 := by decide +kernel
/-- R185: each register of a two-part location decides for itself: reply window 3 is not taken, the rest is. -/
theorem test_register_write_takes_fields_in_range :
    (after (.registerWrite 0x28#6 0x0303#16) up).readLocation 0x28#6 = 0x0320#16 := by decide +kernel
theorem test_aperture_read_miss_is_held :
    let s := { up with settings := { up.settings with windowStation := 3, pageBase := 0x020#12, prefetch := true } }
    (after (.apertureRead 4#4) s).access = some (.read 0 0x0204#16 16) ∧
      ((after (.apertureRead 4#4) s).request 0).map (·.count) = some 12 := by decide +kernel
theorem test_aperture_read_while_down :
    (after (.apertureRead 4#4) State.reset).dataOut = some 0xFFFF#16 ∧
      (after (.apertureRead 4#4) State.reset).readLocation 0x1F#6 = 0x0D02#16 := by decide +kernel
/-- Section 8.8, steps 5 and 6: a write opens an entry and the next address is appended to it. -/
theorem test_aperture_writes_combine :
    let s := { up with settings := { up.settings with windowStation := 3, pageBase := 0x020#12 } }
    (((after (.apertureWrite 7#4 2#16) (after (.apertureWrite 6#4 1#16) s)).postedEntry 0).map fun e =>
      (e.start, e.data, e.state)) = some (0x0206#16, [1#16, 2#16], .opened) := by decide +kernel
theorem test_aperture_write_while_down :
    (after (.apertureWrite 6#4 1#16) State.reset).faults.map (·.cause) = [.windowWriteDropped] := by decide +kernel

/-! ### Pins -/

theorem test_pin_reset_ends_a_held_read :
    (after .pinReset { up with access := some (.read 0 0#16 5) }).dataOut = some 0xFFFF#16 := by decide +kernel
theorem test_reset_release : (after .resetRelease { up with resetInput := true }).resetInput = false := rfl
theorem test_hold_asserted : (after .holdAsserted up).readLocation 0x02#6 = 0x000A#16 := by decide +kernel
theorem test_hold_released : (after .holdReleased { up with holdInput := true }).holdInput = false := rfl

/-! ### The scheduler and the engine -/

/-- Section 12.6, first row, with the station park capable: READ 1000h, count 6, TOGGLE 0. -/
theorem test_grant_forms_the_first_segment :
    (after .grant (standing 0 readRequest up)).exchange.map (·.frame) =
      some (closed [0x4012#16, 0x1000#16, 6#16]) ∧
      ((after .grant (standing 0 readRequest up)).request 0).map (·.state) = some .active := by decide +kernel
/-- Section 12.7: the write phase carries 0534h with NOPARK, INCR and the toggle. -/
theorem test_grant_forms_the_write_phase :
    let s := standing 0 { modifyRequest with kind := .modify { modifyPart with phase := .write, oldValue := some 0x0034#16 } }
      { up with stations := up.stations.set 3 { live with toggle := true } }
    (after .grant s).exchange.map (·.frame) = some (closed [0x402E#16, 0x0120#16, 1#16, 0x0534#16]) := by decide +kernel
theorem test_enumeration_identify_start :
    let s := { State.reset with link := .enumerating, pass := [4, 8] }
    ((after .enumerationIdentifyStart s).station 4).state = .probing ∧
      (after .enumerationIdentifyStart s).exchange.map (·.frame) = some (closed [0x5060#16]) := by decide +kernel
theorem test_frame_begin : (after .frameBegin (reading (.pairWait 5))).exchange = some (readExchange (.sending 1#2)) := by
  decide +kernel
theorem test_pair_active_timeout :
    (after .pairActiveTimeout (reading (.pairWait 0))).exchange = some (readExchange (.sending 1#2)) := by decide +kernel
theorem test_frame_sent : (after .frameSent (reading (.sending 1#2))).exchange = some (readExchange (.window 32)) := by
  decide +kernel
theorem test_reception_begin :
    (after .receptionBegin (reading (.window 9))).exchange = some (readExchange (.receiving 1#2)) := by decide +kernel
/-- Section 12.6: DATA valid: toggle 1, tag 0 QUEUED (head), words done 6. -/
theorem test_reception_end_of_a_segment :
    ((after (.receptionEnd sixWords) (reading (.receiving 1#2))).request 0).map (fun r => (r.state, r.wordsDone, r.data)) =
        some (.queued, 6, [1#16, 2#16, 3#16, 4#16, 5#16, 6#16]) ∧
      ((after (.receptionEnd sixWords) (reading (.receiving 1#2))).station 3).toggle = true := by decide +kernel
/-- Section 12.9: item 18 is appended, item 19 too, item 20 stops; here with a queue of 30. -/
theorem test_reception_end_of_a_poll :
    let s := { up with
      attention := (List.range 30).map fun k =>
        { station := 12, code := BitVec.ofNat 8 k, occurrences := 1, info := 0#16 }
      stations := up.stations.set 3 { live with lastSequence := 17#8 }
      exchange := some (exchangeOf .poll (.station 3) (.station 3) (closed [0x4030#16, 17#16]) (.receiving 1#2)) }
    let t := after (.receptionEnd (frameOf
      [0x04C1#16, 17#16, 4#16, 0x1201#16, 0#16, 0x1302#16, 0#16, 0x1403#16, 0#16, 0x1504#16, 0#16])) s
    t.attention.length = 32 ∧ (t.station 3).lastSequence = 19#8 ∧ (t.station 3).backlog = true := by decide +kernel
theorem test_reception_overrun :
    (after .receptionOverrun (reading (.receiving 1#2))).exchange =
      some { readExchange (.pairWait 32) with attempt := 2 } := by decide +kernel
/-- R30 and R38: the fourth silent attempt loses the station. -/
theorem test_reply_window_close_at_the_last_attempt :
    let s := { reading (.window 0) with exchange := some { readExchange (.window 0) with attempt := 4 } }
    ((after .replyWindowClose s).request 0).map (·.state) = some (.done .noResponse) ∧
      ((after .replyWindowClose s).station 3).state = .lost := by decide +kernel
/-- The BROADCAST of posted entry 0 in flight. -/
def broadcasting (phase : EnginePhase) : State :=
  { standingPosted 0 { broadcastWrite with state := .active } up with
    exchange := some (exchangeOf .broadcast (.posted 0) .broadcast
      (closed [0xF072#16, 0x0040#16, 1#16, 0x00AA#16]) phase) }
theorem test_broadcast_frame_sent :
    (after .broadcastFrameSent (broadcasting (.sending 1#2))).exchange.map (·.phase) = some (.gap 32) := by decide +kernel
theorem test_broadcast_gap_end :
    (after .broadcastGapEnd (broadcasting (.gap 0))).broadcastQueue = [] ∧
      (after .broadcastGapEnd (broadcasting (.gap 0))).faults = [] := by decide +kernel
theorem test_discarded_frame : after (.discardedFrame sixWords) up = up := rfl

/-! ### Timers and holds -/

theorem test_busy_backoff_expiry :
    ((after (.busyBackoffExpiry (.request 0)) (standing 0 { readRequest with state := .waiting 0 } up)).request 0).map
      (·.state) = some .queued := by decide +kernel
/-- A READ that is PARKED in tag 0. -/
def parked (r : Request) (part : ParkPart) : State := standing 0 { r with state := .parked part } up
theorem test_collect_timer_expiry :
    ((after (.collectTimerExpiry 0) (parked readRequest parkPart)).request 0).map (·.state) =
      some (.parked { parkPart with collect := .expired }) := by decide +kernel
theorem test_park_timer_expiry :
    ((after (.parkTimerExpiry 0) (parked readRequest parkPart)).request 0).map (fun r => (r.state, r.abandonPending)) =
      some (.parked { parkPart with park := none, collect := .stopped }, true) := by decide +kernel
theorem test_poll_timer_expiry :
    ((after (.pollTimerExpiry 3) { up with
      stations := up.stations.set 3 { live with pollTimer := some 0 } }).station 3).pollDue = true := by decide +kernel
/-- A read held on the window entry in tag 0, which is in the given state. -/
def heldRead (state : RequestState) (data : List Word) : State :=
  let r := { windowRequest4 { freshPart with held := true } with state := state, data := data }
  { (if r.unfinished then standing 0 r up else finished 0 r up) with access := some (.read 0 0x0204#16 5) }
theorem test_read_hold_expiry :
    (after .readHoldExpiry (heldRead .queued [])).readLocation 0x1F#6 = 0x2001#16 ∧
      (after .readHoldExpiry (heldRead .queued [])).dataOut = some 0xFFFF#16 := by decide +kernel
/-- R183: the held read's word stands before the stretched access is taken, in a step of its own. -/
theorem test_stretched_access_is_taken_after_the_hold :
    let s := after .readHoldExpiry { heldRead .queued [] with portWaiting := [.read 0x00#6, .read 0x01#6] }
    (s.dataOut = some 0xFFFF#16 ∧ s.portWaiting = [.read 0x00#6, .read 0x01#6] ∧ s.waitAsserted = true) ∧
      ∃ t, step s = .next t ∧ t.dataOut = some 0x3120#16 ∧ t.portWaiting = [.read 0x01#6] := by
  exact ⟨by decide +kernel, _, rfl, by decide +kernel, by decide +kernel⟩
theorem test_held_read_answered :
    (after .heldReadAnswered (heldRead (.done .success) ((List.range 16).map (BitVec.ofNat 16)))).dataOut = some 4#16 := by
  decide +kernel
/-- A write of 7 held for station 4. -/
def heldWrite (s : State) : State :=
  { s with
    settings := { s.settings with windowStation := 3, pageBase := 0x020#12 }, access := some (.write 0x0206#16 7#16 5) }
theorem test_write_hold_expiry :
    (after .writeHoldExpiry (heldWrite up)).faults.map (·.address) = [0x0206#16] := by decide +kernel
theorem test_held_write_space :
    ((after .heldWriteSpace (heldWrite up)).postedEntry 0).map (·.data) = some [7#16] := by decide +kernel
theorem test_held_write_station_lost :
    (after .heldWriteStationLost (heldWrite { up with stations := State.reset.stations })).windowStatus.droppedSeen =
      true := by decide +kernel
theorem test_discard_timer_expiry :
    let s := finished 0 { windowRequest4 { freshPart with discard := some 0 } with state := .done .success } up
    (after (.discardTimerExpiry 0) s).request 0 = none ∧ (after (.discardTimerExpiry 0) s).windowStatus.discardedSeen =
      true := by decide +kernel
theorem test_drain_end :
    (after .drainEnd { standingPosted 0 postedWrite up with link := .draining }).faults.map (·.cause) = [.linkDown] := by
  decide +kernel

/-! ### Witnesses: each statement's hypotheses are met, clause by clause -/

theorem ready_up : PortReady up := ⟨rfl, rfl, rfl⟩

/-- A matching entry that is the only entry of the table is the earliest match. -/
theorem earliest_alone {s : State} {u : Tag} {r : Request} {w : WindowPart} {a : Word} (h : Matches s u r w a)
    (hn : ∀ v : Tag, v ≠ u → s.request v = none) : EarliestMatch s u r w a := by
  refine ⟨h, fun v q y hv hm => ?_⟩
  have := hm.1
  rw [hn v hv] at this
  cases this

theorem witness_StepRunsTheFrontCommand : ({ up with pending := [.grant, .drainEnd] } : State).pending =
    .grant :: [.drainEnd] := rfl

/-- An access stretched behind a hold that has ended, and another behind it. -/
def stretched : State := { up with portWaiting := [.read 0x3F#6, .read 0x13#6] }

theorem witness_EmptyQueueTicksTheTimebase :
    (up.pending = [] ∧ up.portWaiting = []) ∧
      (stretched.pending = [] ∧ { stretched with resetInput := true }.resetInput = true) ∧
      { heldRead .queued [] with portWaiting := stretched.portWaiting }.access ≠ none := by decide +kernel

theorem witness_HostAccessesWaitBehindAHold :
    (accessOf .controllerReset = some (.write 0x03#6 0x7E#16) ∧ { up with resetInput := true }.resetInput = true) ∧
      (accessOf (.apertureRead 15#4) = some (.read 0x3F#6) ∧ (heldRead .queued []).resetInput = false ∧
        (heldRead .queued []).access ≠ none) ∧
      (stretched.resetInput = false ∧ stretched.portWaiting ≠ []) ∧
      (accessOf .grant = none ∧ Instr.grant ≠ .pinReset ∧ exec .grant up = .next (after .grant up)) ∧
      stretched.pending = [] ∧ stretched.access = none ∧ stretched.portWaiting = .read 0x3F#6 :: [.read 0x13#6] :=
  ⟨by decide, by decide +kernel, by decide, ⟨rfl, by decide, rfl⟩, rfl, rfl, rfl⟩

theorem witness_HostAccessActsAsItsLocation :
    accessOf (.apertureWrite 15#4 7#16) = some (.write 0x3F#6 7#16) ∧ accessOf .submit = some (.write 0x03#6 0x10#16) ∧
      PortReady up := ⟨by decide, by decide, ready_up⟩

theorem witness_IdentificationNeverChanges :
    PortReady up ∧ (∃ t, exec .pinReset up = .next t) ∧ ∃ t, exec .controllerReset up = .next t :=
  ⟨ready_up, ⟨_, rfl⟩, ⟨_, rfl⟩⟩

theorem witness_ControllerResetKeepsConfiguration : PortReady (reading (.sending 1#2)) := ⟨rfl, rfl, rfl⟩

theorem witness_StageClearEmptiesTheStagedData : PortReady State.reset := ⟨rfl, rfl, rfl⟩

/-- A staging area of the given number of words. -/
def stagedWords (n : Nat) : State := { up with staging := { up.staging with data := List.replicate n 7#16 } }

theorem witness_StageDataWriteAppendsOrOverflows :
    (PortReady (stagedWords 15) ∧ (stagedWords 15).staging.data.length < 16) ∧
      (PortReady (stagedWords 16) ∧ 16 ≤ (stagedWords 16).staging.data.length ∧
        (stagedWords 16).staging.data.length ≤ 16) :=
  ⟨⟨⟨rfl, rfl, rfl⟩, by decide⟩, ⟨rfl, rfl, rfl⟩, by decide, by decide⟩

/-- A staged request of any kind to any station number. -/
def stagedAs (kind station count address : Nat) (data : List Word) (s : State) : State :=
  { s with
    staging := { s.staging with
      kind := BitVec.ofNat 4 kind, station := BitVec.ofNat 4 station, count := BitVec.ofNat 5 count
      address := BitVec.ofNat 16 address, data := data } }

/-- Every posted entry taken. -/
def postedFull : State := { up with posted := Vector.replicate 16 (some postedWrite) }

/-- Every request entry taken. -/
def tableFull : State := { up with requests := Vector.replicate 16 (some { readRequest with state := .delivered .success }) }

theorem witness_FirstFailedCheck_badKind :
    PortReady (stagedAs 6 4 1 0 [] up) ∧ checkOrder = [] ++ .badKind :: checkOrder.tail ∧
      Refuses (stagedAs 6 4 1 0 [] up) .badKind ∧ ∀ c ∈ ([] : List ResultCode), ¬ Refuses (stagedAs 6 4 1 0 [] up) c := by
  refine ⟨⟨rfl, rfl, rfl⟩, rfl, ?_, by simp⟩
  show ¬(1 ≤ _ ∧ _)
  decide

theorem witness_FirstFailedCheck_badStation :
    Refuses (stagedAs 5 14 1 0 [] up) .badStation ∧ Refuses (stagedAs 1 0 1 0 [] up) .badStation ∧
      ∀ c ∈ ([.badKind] : List ResultCode), ¬ Refuses (stagedAs 1 0 1 0 [] up) c := by
  refine ⟨Or.inr (by decide), Or.inl (by decide), ?_⟩
  intro c hc
  cases List.mem_singleton.mp hc
  show ¬¬(1 ≤ _ ∧ _)
  decide

theorem witness_FirstFailedCheck_range :
    checkOrder = [.badKind, .badStation, .badCount, .badLength] ++ .range :: checkOrder.drop 5 ∧
      Refuses (stagedAs 1 14 16 0xFFF1 [] up) .range ∧
        ∀ c ∈ ([.badKind, .badStation, .badCount, .badLength] : List ResultCode),
          ¬ Refuses (stagedAs 1 14 16 0xFFF1 [] up) c := by
  refine ⟨rfl, ⟨by decide, by decide, by decide⟩, ?_⟩
  intro c hc
  fin_cases hc
  · show ¬¬(1 ≤ _ ∧ _); decide
  · rintro (⟨_, h⟩ | ⟨h, _⟩)
    · revert h; decide
    · revert h; decide
  · rintro (h | h | ⟨h, _⟩) <;> revert h <;> decide
  · rintro ⟨h, _⟩; revert h; decide

/-- No condition of R9's table but the two on capacity holds of a staged POSTED WRITE of one word. -/
theorem stagedPosted_passes (s : State) (hl : s.link = .up) (ho : (s.station 3).state = .online)
    (hg : s.staging = (stagedAs 4 4 1 0 [7#16] up).staging) :
    ∀ c ∈ ([.badKind, .badStation, .badCount, .badLength, .range, .badRelation, .linkNotUp, .stationNotOnline,
      .tableFull] : List ResultCode), ¬ Refuses s c := by
  intro c hc
  fin_cases hc <;> simp only [Refuses, hg, hl]
  · decide
  · decide
  · decide
  · decide
  · decide
  · rintro ⟨h, _⟩; revert h; decide
  · decide
  · rintro ⟨_, h⟩; exact h 3 (by decide) ho
  · rintro ⟨h, _⟩; revert h; decide

theorem witness_FirstFailedCheck_postedFull :
    PortReady (stagedAs 4 4 1 0 [7#16] postedFull) ∧
      checkOrder = checkOrder.dropLast ++ .postedFull :: [] ∧
      Refuses (stagedAs 4 4 1 0 [7#16] postedFull) .postedFull ∧
      ∀ c ∈ checkOrder.dropLast, ¬ Refuses (stagedAs 4 4 1 0 [7#16] postedFull) c :=
  ⟨⟨rfl, rfl, rfl⟩, rfl, ⟨by decide, Or.inl (by decide +kernel)⟩, stagedPosted_passes _ rfl (by decide +kernel) rfl⟩

theorem witness_FirstFailedCheck_tableFull : Refuses (stagedAs 1 4 1 0 [] tableFull) .tableFull :=
  ⟨by decide, by decide +kernel⟩

theorem witness_FirstFailedCheck_badRelation : Refuses (stagedAs 3 4 1 0 [] up) .badRelation :=
  ⟨by decide, fun r => by cases r <;> decide⟩

theorem witness_FirstFailedCheck_linkNotUp : Refuses (stagedAs 1 4 1 0 [] State.reset) .linkNotUp :=
  ⟨by decide, by decide⟩

theorem witness_FirstFailedCheck_stationNotOnline : Refuses (stagedAs 1 5 1 0 [] up) .stationNotOnline := by
  refine ⟨by decide, fun i hi => ?_⟩
  have : i = 4 := Fin.ext (by have h5 : stationAddress i = 5 := hi; simp only [stationAddress] at h5; omega)
  subst this
  decide +kernel

theorem witness_FirstFailedCheck_badCount_badLength :
    Refuses (stagedAs 1 4 17 0 [] up) .badCount ∧ Refuses (stagedAs 1 4 0 0 [] up) .badCount ∧
      Refuses (stagedAs 3 4 2 0 [] up) .badCount ∧ Refuses (stagedAs 2 4 16 0 [7#16] up) .badLength :=
  ⟨Or.inr (Or.inl (by decide)), Or.inl (by decide), Or.inr (Or.inr (by decide)), by decide, Or.inr (by decide)⟩

theorem witness_SubmitAcceptsADeferredRequest :
    PortReady (stagedAs 1 4 16 0xFFF0 [] up) ∧ Accepts (stagedAs 1 4 16 0xFFF0 [] up) ∧
      (stagedAs 1 4 16 0xFFF0 [] up).staging.kind.toNat ≤ 3 := by
  refine ⟨⟨rfl, rfl, rfl⟩, ?_, by decide⟩
  intro c hc
  fin_cases hc <;> simp only [Refuses]
  · decide
  · decide
  · decide
  · decide
  · decide
  · rintro ⟨h, _⟩; revert h; decide
  · decide
  · rintro ⟨_, h⟩; exact h 3 (by decide) (by decide +kernel)
  · rintro ⟨_, h⟩; exact h 0 (by decide +kernel)
  · rintro ⟨h, _⟩; revert h; decide

theorem witness_SubmitAcceptsAPostedRequest :
    PortReady (stagedAs 4 4 1 0 [7#16] up) ∧ Accepts (stagedAs 4 4 1 0 [7#16] up) ∧
      4 ≤ (stagedAs 4 4 1 0 [7#16] up).staging.kind.toNat := by
  refine ⟨⟨rfl, rfl, rfl⟩, ?_, by decide⟩
  intro c hc
  have hc' : c ∈ checkOrder.dropLast ++ [.postedFull] := hc
  rcases List.mem_append.mp hc' with h | h
  · exact stagedPosted_passes (stagedAs 4 4 1 0 [7#16] up) rfl (by decide +kernel) rfl c h
  · cases List.mem_singleton.mp h
    rintro ⟨_, h | h⟩
    · exact h 0 (by decide +kernel)
    · revert h; decide +kernel

/-- The state with PARAMETER naming something. -/
def naming (n : Nat) (s : State) : State := { s with parameter := BitVec.ofNat 16 n }

theorem witness_CancelActsByEntryState :
    PortReady (naming 16 up) ∧ 15 < (naming 16 up).parameter.toNat ∧ (naming 15 up).parameter.toNat = (15 : Tag).val ∧
      (naming 15 up).request 15 = none ∧
      (heldRead .queued []).request 0 =
        some { windowRequest4 { freshPart with held := true } with state := .queued, data := [] } ∧
      (finished 0 { readRequest with state := .done .success } up).request 0 =
        some { readRequest with state := .done .success } ∧
      (standing 0 readRequest up).request 0 = some readRequest ∧
      (standing 0 { readRequest with state := .active } up).request 0 = some { readRequest with state := .active } ∧
      (parked readRequest parkPart).request 0 = some { readRequest with state := .parked parkPart } :=
  ⟨⟨rfl, rfl, rfl⟩, by decide, by decide, by decide +kernel, by decide +kernel, by decide +kernel, by decide +kernel,
    by decide +kernel, by decide +kernel⟩

theorem witness_ReleaseFreesOnlyADeliveredEntry :
    PortReady (naming 16 up) ∧ 15 < (naming 16 up).parameter.toNat ∧ (naming 0 up).parameter.toNat = (0 : Tag).val ∧
      (naming 0 up).request 0 = none ∧
      (finished 0 { readRequest with state := .delivered .success } up).request 0 =
        some { readRequest with state := .delivered .success } ∧
      ((standing 0 readRequest up).request 0 = some readRequest ∧ ∀ status, readRequest.state ≠ .delivered status) :=
  ⟨⟨rfl, rfl, rfl⟩, by decide, by decide, by decide +kernel, by decide +kernel, by decide +kernel, fun _ h => by cases h⟩

/-- A completed entry in the Completion List. -/
def completedEntry (kind : RequestKind) : State :=
  { finished 0 { readRequest with kind := kind, state := .done .success } up with completionList := [0] }

theorem witness_NextCompletionDeliversTheOldest :
    (PortReady up ∧ up.completionList = []) ∧
      (PortReady (completedEntry .read) ∧ (completedEntry .read).completionList = 0 :: [] ∧
        (completedEntry .read).request 0 = some { readRequest with state := .done .success }) ∧
      (completedEntry (.modify modifyPart)).request 0 =
        some { readRequest with kind := .modify modifyPart, state := .done .success } ∧
      (completedEntry (.modify { modifyPart with oldValue := some 7#16 })).request 0 =
        some { readRequest with
          kind := .modify { modifyPart with oldValue := some 7#16 }, state := .done .success } ∧
      (completedEntry .confirmedWrite).request 0 =
        some { readRequest with kind := .confirmedWrite, state := .done .success } :=
  ⟨⟨⟨rfl, rfl, rfl⟩, rfl⟩, ⟨⟨rfl, rfl, rfl⟩, rfl, by decide +kernel⟩, by decide +kernel, by decide +kernel, by decide +kernel⟩

/-- A DELIVERED entry of two words at a data port position. -/
def delivered (position : Nat) : State :=
  { finished 0 { readRequest with state := .delivered .success, wordsDone := 2, data := [7#16, 8#16] } up with
    dataPosition := position }

theorem witness_DataPortReadReturnsAndAdvances :
    (PortReady (delivered 1) ∧ (delivered 1).completion.tag.toNat = (0 : Tag).val ∧
        (delivered 1).request 0 =
          some { readRequest with state := .delivered .success, wordsDone := 2, data := [7#16, 8#16] } ∧
        (delivered 1).dataPosition < 2) ∧
      (2 ≤ (delivered 2).dataPosition) ∧
      (standing 0 readRequest up).completion.tag.toNat = (0 : Tag).val ∧
        ∀ r status, (standing 0 readRequest up).request 0 = some r → r.state ≠ .delivered status := by
  refine ⟨⟨⟨rfl, rfl, rfl⟩, by decide, by decide +kernel, by decide⟩, by decide, by decide, ?_⟩
  intro r status h
  have hr : (standing 0 readRequest up).request 0 = some readRequest := by decide +kernel
  rw [hr] at h
  cases h
  intro hs
  cases hs

/-- One attention item queued. -/
def oneItem : State := { up with attention := [{ station := 3, code := 9#8, occurrences := 255, info := 7#16 }] }

theorem witness_NextAttentionTakesTheOldestItem :
    (PortReady up ∧ up.attention = []) ∧ PortReady oneItem ∧
      oneItem.attention = { station := 3, code := 9#8, occurrences := 255, info := 7#16 } :: [] :=
  ⟨⟨⟨rfl, rfl, rfl⟩, rfl⟩, ⟨rfl, rfl, rfl⟩, rfl⟩

/-- Fault records, the given number of them. -/
def faulty (n drops : Nat) : State :=
  { up with faults := List.replicate n { cause := .rejected, target := .broadcast, address := 0#16, wordsDone := 0 }
            dropped := drops }

theorem witness_NextFaultReportsDropsWithTheLast :
    (PortReady up ∧ up.faults = []) ∧
      (∃ f, PortReady (faulty 1 255) ∧ (faulty 1 255).faults = f :: []) ∧
      ∃ f rest, PortReady (faulty 2 1) ∧ (faulty 2 1).faults = f :: rest ∧ rest ≠ [] :=
  ⟨⟨⟨rfl, rfl, rfl⟩, rfl⟩, ⟨_, ⟨rfl, rfl, rfl⟩, rfl⟩, ⟨_, _, ⟨rfl, rfl, rfl⟩, rfl, by simp⟩⟩

theorem witness_LatchedRecordsChangeOnlyByTheirCommands :
    (up.pending = [] ∧ up.portWaiting = [] ∧ ∃ t, step up = .next t) ∧
      (∃ t, exec .nextCompletion up = .next t) ∧ Instr.nextCompletion.wf = true ∧
      Instr.nextCompletion ≠ .pinReset ∧ Instr.nextCompletion ≠ .controllerReset ∧
      Instr.nextCompletion ≠ .nextAttention ∧ Instr.nextCompletion ≠ .nextFault ∧
      Instr.nextAttention ≠ .nextCompletion :=
  ⟨⟨rfl, rfl, _, rfl⟩, ⟨_, rfl⟩, rfl, by decide, by decide, by decide, by decide, by decide⟩

theorem witness_LinkStartReadsTheMask :
    (PortReady up ∧ up.link ≠ .down) ∧ PortReady State.reset ∧ State.reset.link = .down :=
  ⟨⟨⟨rfl, rfl, rfl⟩, by decide⟩, ⟨rfl, rfl, rfl⟩, rfl⟩

theorem faultsKept_of {s : State} (h1 : s.faults.length ≤ 8) (h2 : s.dropped ≤ 255) (h3 : 0 < s.dropped → s.faults ≠ []) :
    FaultsKept s := ⟨h1, h2, h3⟩

theorem witness_LinkStopDrainsTheLink :
    (PortReady State.reset ∧ State.reset.link = .down) ∧
      (PortReady { up with link := .draining } ∧ { up with link := .draining }.link = .draining) ∧
      (PortReady (reading (.window 3)) ∧ (reading (.window 3)).link = .up ∧ (reading (.window 3)).exchange ≠ none) ∧
      PortReady { up with link := .enumerating } ∧ { up with link := .enumerating }.exchange = none ∧
      FaultsKept { up with link := .enumerating } :=
  ⟨⟨⟨rfl, rfl, rfl⟩, rfl⟩, ⟨⟨rfl, rfl, rfl⟩, rfl⟩, ⟨⟨rfl, rfl, rfl⟩, rfl, by decide⟩, ⟨rfl, rfl, rfl⟩, rfl,
    faultsKept_of (by decide) (by decide) (by decide)⟩

/-- A drain with a PORT entry, a held window entry, a posted entry and a full fault list. -/
def draining : State :=
  { standingPosted 0 postedWrite
      (standing 1 readRequest (standing 0 (windowRequest4 { freshPart with held := true }) (faulty 8 255))) with
    link := .draining, access := some (.read 0 0x0204#16 5) }

theorem witness_DrainEndFinishesAllWork :
    (draining.link = .draining ∧ draining.exchange = none ∧ FaultsKept draining) ∧
      draining.request 1 = some readRequest ∧ Unfinished readRequest ∧
      (∃ u a n, draining.access = some (.read u a n)) ∧
      ({ up with link := .draining }.link = .draining ∧ FaultsKept { up with link := .draining } ∧
        ∀ u a n, { up with link := .draining }.access ≠ some (.read u a n)) := by
  refine ⟨⟨rfl, rfl, faultsKept_of (by decide +kernel) (by decide +kernel) (by decide +kernel)⟩, by decide +kernel,
    fun status => ⟨by simp [readRequest], by simp [readRequest]⟩, ⟨0, 0x0204#16, 5, rfl⟩, rfl,
    faultsKept_of (by decide) (by decide) (by decide), fun u a n h => by cases h⟩

theorem witness_HeldFieldFollowsHoldAndResume :
    (PortReady (naming 14 up) ∧ stationAddress 13 = (naming 14 up).parameter.toNat) ∧
      (PortReady (naming 0 up) ∧ (naming 0 up).parameter.toNat = 0) ∧
      (PortReady (naming 15 up) ∧ 15 ≤ (naming 15 up).parameter.toNat) ∧
      (∃ t, exec .pinReset up = .next t) ∧ (∃ t, PortReady up ∧ exec .controllerReset up = .next t) ∧
      ((∃ t, exec .linkStop up = .next t) ∧ Instr.linkStop.wf = true ∧
        Instr.linkStop ≠ .stationHold ∧ Instr.linkStop ≠ .stationResume ∧ Instr.linkStop ≠ .pinReset ∧
        Instr.linkStop ≠ .controllerReset) :=
  ⟨⟨⟨rfl, rfl, rfl⟩, by decide⟩, ⟨⟨rfl, rfl, rfl⟩, by decide⟩, ⟨⟨rfl, rfl, rfl⟩, by decide⟩, ⟨_, rfl⟩, ⟨_, ready_up, rfl⟩,
    ⟨_, rfl⟩, rfl, by decide, by decide, by decide, by decide⟩

/-- An ACTIVE head, then a QUEUED READ, a QUEUED window entry and a posted entry, all of station 4, which PARAMETER names. -/
def flushed : State :=
  naming 4 (standingPosted 0 { postedWrite with order := 3 }
    (standing 2 { windowRequest4 freshPart with order := 2 }
      (standing 1 { readRequest with order := 1 } (reading (.window 5)))))

/-- A PARKED head of station 4, which PARAMETER names. -/
def flushedParked : State := naming 4 (parked readRequest parkPart)

theorem queuesExact_flushed : QueuesExact flushed := by
  unfold QueuesExact RequestsQueued PostedQueued BroadcastsQueued QueuesOnce
  decide +kernel

theorem witness_StationFlushEndsUnfinishedWork :
    PortReady flushed ∧ QueuesExact flushed ∧ FaultsKept flushed ∧ stationAddress 3 = flushed.parameter.toNat ∧
      flushed.request 0 = some { readRequest with state := .active } ∧
      flushed.request 1 = some { readRequest with order := 1 } ∧
      flushed.request 2 = some { windowRequest4 freshPart with order := 2 } ∧
      flushed.postedEntry 0 = some { postedWrite with order := 3 } ∧
      PortReady flushedParked ∧ QueuesExact flushedParked ∧ FaultsKept flushedParked ∧
      stationAddress 3 = flushedParked.parameter.toNat ∧
      flushedParked.request 0 = some { readRequest with state := .parked parkPart } := by
  refine ⟨⟨rfl, rfl, rfl⟩, queuesExact_flushed, faultsKept_of (by decide +kernel) (by decide +kernel) (by decide +kernel),
    by decide, by decide +kernel, by decide +kernel, by decide +kernel, by decide +kernel, ⟨rfl, rfl, rfl⟩, ?_,
    faultsKept_of (by decide +kernel) (by decide +kernel) (by decide +kernel), by decide, by decide +kernel⟩
  unfold QueuesExact RequestsQueued PostedQueued BroadcastsQueued QueuesOnce
  decide +kernel

theorem witness_StationRejoinChecksInOrder :
    (PortReady (naming 15 up) ∧ 15 ≤ (naming 15 up).parameter.toNat) ∧
      (stationAddress 0 = (naming 1 State.reset).parameter.toNat ∧ (naming 1 State.reset).link ≠ .up) ∧
      (stationAddress 3 = (naming 4 up).parameter.toNat ∧ ((naming 4 up).station 3).state = .online) ∧
      stationAddress 13 = (naming 14 up).parameter.toNat ∧ (naming 14 up).link = .up ∧
      ((naming 14 up).station 13).state = .absent :=
  ⟨⟨⟨rfl, rfl, rfl⟩, by decide⟩, ⟨by decide, by decide⟩, ⟨by decide, by decide +kernel⟩, by decide, rfl, by decide +kernel⟩

theorem witness_UnknownCodeIsBadCommand : PortReady up ∧ (Instr.badCommand 0#8).wf = true := ⟨ready_up, by decide⟩

theorem witness_InterruptCauseWriteClearsLatchedOnes : PortReady up := ready_up
theorem witness_IntFollowsCausesAndEnables : PortReady up := ready_up
theorem witness_WindowStatusWriteClearsStickyOnes : PortReady up := ready_up

theorem witness_WindowConfigurationWritesClose :
    PortReady up ∧ (0xFFF0#16).toNat % 16 = 0 ∧ (0xFFFF#16).toNat % 16 = 15 ∧ stationAddress 0 = (0xFFF1#16).toNat % 16 ∧
      stationAddress 13 = (0x000E#16).toNat % 16 := ⟨ready_up, by decide, by decide, by decide, by decide⟩

theorem witness_TimebaseTakenOnlyWhileDown :
    (PortReady State.reset ∧ State.reset.link = .down ∧ 8 ≤ (8#16).toNat % 64 ∧ (32#16).toNat % 64 ≤ 32) ∧
      (PortReady up ∧ up.link ≠ .down) ∧ (7#16).toNat % 64 < 8 ∧ 32 < (33#16).toNat % 64 :=
  ⟨⟨⟨rfl, rfl, rfl⟩, rfl, by decide, by decide⟩, ⟨ready_up, by decide⟩, by decide, by decide⟩

theorem witness_RegisterWriteStoresInRangeFields :
    PortReady up ∧ readOnly.all (fun location => (Instr.registerWrite location 7#16).wf) = true ∧
      storedMasks.all (fun e => (Instr.registerWrite e.1 7#16).wf) = true ∧
      ([0x23#6, 0x28#6, 0x29#6, 0x2A#6, 0x2B#6, 0x2C#6] : List (BitVec 6)).all
        (fun location => (Instr.registerWrite location 7#16).wf) = true ∧
      stationAddress 13 = (14#16).toNat % 16 ∧ (15#16).toNat % 16 = 15 :=
  ⟨ready_up, by decide +kernel, by decide +kernel, by decide +kernel, by decide, by decide⟩

/-- The window of station 4 at page 0200h. -/
def window (s : State) : State := { s with settings := { s.settings with windowStation := 3, pageBase := 0x020#12 } }

/-- One window entry of the page in tag 0. -/
def windowed (w : WindowPart) (state : RequestState) : State :=
  let r := { windowRequest4 w with state := state }
  window (if r.unfinished then standing 0 r up else finished 0 r up)

theorem witness_ApertureReadIsAnsweredByItsMatch :
    (PortReady (windowed { freshPart with front := 5 } (.done .success)) ∧
        QueuesExact (windowed { freshPart with front := 5 } (.done .success)) ∧
        EarliestMatch (windowed { freshPart with front := 5 } (.done .success)) 0
          { windowRequest4 { freshPart with front := 5 } with state := .done .success } { freshPart with front := 5 }
          (reached (windowed { freshPart with front := 5 } (.done .success)) 5#4)) ∧
      EarliestMatch (windowed freshPart (.done .noResponse)) 0
        { windowRequest4 freshPart with state := .done .noResponse } freshPart
        (reached (windowed freshPart (.done .noResponse)) 15#4) ∧
      QueuesExact (windowed freshPart .queued) ∧
      EarliestMatch (windowed freshPart .queued) 0 { windowRequest4 freshPart with state := .queued } freshPart
        (reached (windowed freshPart .queued) 0#4) ∧
      Unfinished { windowRequest4 freshPart with state := .queued } := by
  refine ⟨⟨⟨rfl, rfl, rfl⟩, ?_, earliest_alone ?_ (by decide +kernel)⟩, earliest_alone ?_ (by decide +kernel), ?_,
    earliest_alone ?_ (by decide +kernel), fun _ => ⟨by simp, by simp⟩⟩
  · unfold QueuesExact RequestsQueued PostedQueued BroadcastsQueued QueuesOnce; decide +kernel
  · exact ⟨by decide +kernel, rfl, by decide, rfl, by decide, by decide⟩
  · exact ⟨by decide +kernel, rfl, by decide, rfl, by decide, by decide⟩
  · unfold QueuesExact RequestsQueued PostedQueued BroadcastsQueued QueuesOnce; decide +kernel
  · exact ⟨by decide +kernel, rfl, by decide, rfl, by decide, by decide⟩

theorem noMatch_of_empty {s : State} (h : ∀ u : Tag, s.request u = none) (a : Word) : ∀ u r w, ¬ Matches s u r w a := by
  intro u r w hm
  have := hm.1
  rw [h u] at this
  cases this

/-- Four window entries of station 4, all QUEUED, none of the page; or the first of them DONE. -/
def quotaFull (first : RequestState) : State :=
  let r (k : Nat) (state : RequestState) : Request :=
    { windowRequest4 freshPart with start := 0x1000#16, order := k, state := state }
  let s := standing 3 (r 3 .queued) (standing 2 (r 2 .queued) (standing 1 (r 1 .queued) up))
  window (if (r 0 first).unfinished then standing 0 (r 0 first) s else finished 0 (r 0 first) s)

theorem noMatch_quotaFull (first : RequestState) (o : BitVec 4)
    (h : ∀ u : Tag, ((quotaFull first).request u).all (fun r => r.start = 0x1000#16) = true) :
    ∀ u r w, ¬ Matches (quotaFull first) u r w (reached (quotaFull first) o) := by
  rintro u r w ⟨hr, _, _, _, hl, _⟩
  have hu := h u
  rw [hr] at hu
  have hs : r.start = 0x1000#16 := by simpa using hu
  rw [hs] at hl
  have ha : (reached (quotaFull first) o).toNat ≤ 0x20F := by
    have hb : ∀ b : BitVec 4, (0x020#12 ++ b).toNat ≤ 0x20F := by decide
    exact hb o
  have h1 : (0x1000#16).toNat = 0x1000 := rfl
  omega

theorem witness_ApertureReadMissIsRefusedOrServed :
    (PortReady State.reset ∧ QueuesExact State.reset ∧
        (∀ u r w, ¬ Matches State.reset u r w (reached State.reset 15#4)) ∧ State.reset.link ≠ .up) ∧
      ((up.station up.settings.windowStation).state ≠ .online ∧ ∀ u r w, ¬ Matches up u r w (reached up 0#4)) ∧
      (QueuesExact (quotaFull .queued) ∧
        (∀ u r w, ¬ Matches (quotaFull .queued) u r w (reached (quotaFull .queued) 0#4)) ∧
        ((quotaFull .queued).station (quotaFull .queued).settings.windowStation).state = .online ∧
        4 ≤ (quotaFull .queued).windowEntries ∧
        ∀ u : Tag, ((quotaFull .queued).request u).all (fun r => r.reclaimable = false) = true) ∧
      (QueuesExact (quotaFull (.done .success)) ∧
        (∀ u r w, ¬ Matches (quotaFull (.done .success)) u r w (reached (quotaFull (.done .success)) 0#4)) ∧
        4 ≤ (quotaFull (.done .success)).windowEntries ∧
        ((quotaFull (.done .success)).request 0).any Request.reclaimable = true ∧
        ∀ u : Tag, u ≠ 0 → ((quotaFull (.done .success)).request u).all (fun r => r.reclaimable = false) = true) ∧
      (PortReady (window up) ∧ QueuesExact (window up) ∧
        (∀ u r w, ¬ Matches (window up) u r w (reached (window up) 15#4)) ∧ (window up).link = .up ∧
        ((window up).station (window up).settings.windowStation).state = .online ∧ (window up).windowEntries < 4 ∧
        ∃ u, (window up).request u = none) := by
  have hq : ∀ s : State, s = State.reset ∨ s = quotaFull .queued ∨ s = quotaFull (.done .success) ∨ s = window up →
      QueuesExact s := by
    unfold QueuesExact RequestsQueued PostedQueued BroadcastsQueued QueuesOnce
    rintro s (rfl | rfl | rfl | rfl) <;> decide +kernel
  exact ⟨⟨⟨rfl, rfl, rfl⟩, hq _ (Or.inl rfl), noMatch_of_empty (by decide +kernel) _, by decide⟩,
    ⟨by decide +kernel, noMatch_of_empty (by decide +kernel) _⟩,
    ⟨hq _ (Or.inr (Or.inl rfl)), noMatch_quotaFull _ _ (by decide +kernel), by decide +kernel, by decide +kernel,
      by decide +kernel⟩,
    ⟨hq _ (Or.inr (Or.inr (Or.inl rfl))), noMatch_quotaFull _ _ (by decide +kernel), by decide +kernel,
      by decide +kernel, by decide +kernel⟩,
    ⟨rfl, rfl, rfl⟩, hq _ (Or.inr (Or.inr (Or.inr rfl))), noMatch_of_empty (by decide +kernel) _, rfl, by decide +kernel,
    by decide +kernel, ⟨0, by decide +kernel⟩⟩

/-- An OPEN entry of the window station from 0206h. -/
def opened (words : Nat) : Posted :=
  { postedWrite with origin := .window, start := 0x0200#16, data := List.replicate words 7#16, state := .opened }

/-- The window up with that OPEN entry in posted entry 0. -/
def withOpen (words : Nat) : State := window (standingPosted 0 (opened words) up)

theorem oneOpen_withOpen (n : Nat) (h : ∀ q : PostedIndex, q ≠ 0 → (withOpen n).postedEntry q = none) :
    OneOpen (withOpen n) := by
  have key : ∀ q : PostedIndex, ((withOpen n).postedEntry q).any (fun e => e.state = .opened) = true → q = 0 := by
    intro q hq
    by_contra hn
    rw [h q hn] at hq
    cases hq
  intro p q hp hq
  rw [key p hp, key q hq]

/-- The window up with the Posted Store full. -/
def storeFull : State := window postedFull

theorem witness_ApertureWriteTakesTheFirstCase :
    (PortReady State.reset ∧ FaultsKept State.reset ∧ OneOpen State.reset ∧ State.reset.link ≠ .up) ∧
      (PortReady (withOpen 15) ∧ FaultsKept (withOpen 15) ∧ OneOpen (withOpen 15) ∧ (withOpen 15).link = .up ∧
        ((withOpen 15).station (withOpen 15).settings.windowStation).state = .online ∧
        (withOpen 15).postedEntry 0 = some (opened 15) ∧
        (reached (withOpen 15) 15#4).toNat = (opened 15).start.toNat + (opened 15).count ∧ (opened 15).count < 16 ∧
        (withOpen 15).poolUsed < 128) ∧
      (OneOpen (withOpen 1) ∧ (withOpen 1).postedEntry 0 = some (opened 1) ∧
        (reached (withOpen 1) 0#4).toNat ≠ (opened 1).start.toNat + (opened 1).count ∧
        (withOpen 1).postedEntry 1 = none ∧ (withOpen 1).poolUsed < 128) ∧
      (PortReady storeFull ∧ FaultsKept storeFull ∧ OneOpen storeFull ∧ storeFull.link = .up ∧
        (storeFull.station storeFull.settings.windowStation).state = .online ∧
        (∀ p : PostedIndex, (storeFull.postedEntry p).all (fun e => !(e.state = .opened)) = true) ∧
        ∀ p : PostedIndex, storeFull.postedEntry p ≠ none) := by
  have ho : ∀ s : State, s = State.reset ∨ s = storeFull → OneOpen s := by
    unfold OneOpen
    rintro s (rfl | rfl) <;> decide +kernel
  exact ⟨⟨⟨rfl, rfl, rfl⟩, faultsKept_of (by decide) (by decide) (by decide), ho _ (Or.inl rfl), by decide⟩,
    ⟨⟨rfl, rfl, rfl⟩, faultsKept_of (by decide +kernel) (by decide +kernel) (by decide +kernel),
      oneOpen_withOpen 15 (by decide +kernel), rfl, by decide +kernel, by decide +kernel, by decide +kernel, by decide,
      by decide +kernel⟩,
    ⟨oneOpen_withOpen 1 (by decide +kernel), by decide +kernel, by decide +kernel, by decide +kernel,
      by decide +kernel⟩,
    ⟨rfl, rfl, rfl⟩, faultsKept_of (by decide +kernel) (by decide +kernel) (by decide +kernel), ho _ (Or.inr rfl), rfl,
    by decide +kernel, by decide +kernel, by decide +kernel⟩

theorem queuesExact_heldRead (state : RequestState) (h : state = .queued ∨ state = .done .success ∨
    state = .done .noResponse) : QueuesExact (heldRead state []) := by
  unfold QueuesExact RequestsQueued PostedQueued BroadcastsQueued QueuesOnce
  rcases h with rfl | rfl | rfl <;> decide +kernel

theorem witness_ReadHoldEndsDeferredOrAnswered :
    (QueuesExact up ∧ ∀ u a n, up.access ≠ some (.read u a n)) ∧
      (∀ state, state = .queued ∨ state = .done .success ∨ state = .done .noResponse →
        QueuesExact (heldRead state []) ∧
          (heldRead state []).access = some (.read 0 0x0204#16 5) ∧
          (heldRead state []).request 0 =
            some { windowRequest4 { freshPart with held := true } with state := state, data := [] }) := by
  refine ⟨⟨?_, fun u a n h => by cases h⟩, fun state h => ⟨queuesExact_heldRead state h, ?_, ?_⟩⟩
  · unfold QueuesExact RequestsQueued PostedQueued BroadcastsQueued QueuesOnce; decide +kernel
  · rcases h with rfl | rfl | rfl <;> rfl
  · rcases h with rfl | rfl | rfl <;> decide +kernel

theorem witness_WriteHoldEndsDroppedOrAccepted :
    (FaultsKept up ∧ ∀ a v n, up.access ≠ some (.write a v n)) ∧
      (FaultsKept (heldWrite up) ∧
        (heldWrite up).access = some (.write 0x0206#16 7#16 5) ∧
        ((heldWrite up).station (heldWrite up).settings.windowStation).state = .online ∧
        (∃ p, (heldWrite up).postedEntry p = none) ∧ (heldWrite up).poolUsed < 128) ∧
      ((heldWrite State.reset).access = some (.write 0x0206#16 7#16 5) ∧
        ((heldWrite State.reset).station (heldWrite State.reset).settings.windowStation).state ≠ .online) ∧
      (heldWrite postedFull).access = some (.write 0x0206#16 7#16 5) ∧
        ∀ p : PostedIndex, (heldWrite postedFull).postedEntry p ≠ none :=
  ⟨⟨faultsKept_of (by decide) (by decide) (by decide), fun a v n h => by cases h⟩,
    ⟨faultsKept_of (by decide) (by decide) (by decide), rfl, by decide +kernel, ⟨0, by decide +kernel⟩,
      by decide +kernel⟩,
    ⟨rfl, by decide +kernel⟩, rfl, by decide +kernel⟩

/-- A window entry DONE with its discard timer about to expire. -/
def discarding : State := finished 0 { windowRequest4 { freshPart with discard := some 0 } with state := .done .success } up

theorem witness_TimersExpireInTheirState :
    (up.station 3).pollTimer = none ∧
      ({ up with stations := up.stations.set 3 { live with pollTimer := some 0 } }.station 3).pollTimer ≠ none ∧
      backoffLeft (up.request 0) = none ∧ collectLeft (up.request 0) = none ∧ parkLeft (up.request 0) = none ∧
      (∀ r status, up.request 0 = some r → r.state = .done status → discardLeft (some r) = none) ∧
      (standing 0 { readRequest with state := .waiting 0 } up).request 0 = some { readRequest with state := .waiting 0 } ∧
      (parked readRequest parkPart).request 0 = some { readRequest with state := .parked parkPart } ∧
      parkPart.collect = .running 1000 ∧ parkPart.park = some 50000 ∧
      (QueuesExact discarding ∧
        discarding.request 0 =
          some { windowRequest4 { freshPart with discard := some 0 } with state := .done .success }) ∧
      postedBackoffLeft (up.postedEntry 0) = none ∧
      (standingPosted 0 { postedWrite with state := .waiting 0 } up).postedEntry 0 =
        some { postedWrite with state := .waiting 0 } := by
  refine ⟨by decide +kernel, by decide +kernel, by decide +kernel, by decide +kernel, by decide +kernel, ?_,
    by decide +kernel, by decide +kernel, rfl, rfl, ⟨?_, by decide +kernel⟩, by decide +kernel, by decide +kernel⟩
  · intro r status h
    have : up.request 0 = none := by decide +kernel
    rw [this] at h
    cases h
  · unfold QueuesExact RequestsQueued PostedQueued BroadcastsQueued QueuesOnce; decide +kernel

theorem firstAfter_of {eligible : Nat → Bool} {size position n : Nat} (h1 : 1 ≤ n) (h2 : n ≤ size)
    (h3 : eligible n = true)
    (h : ∀ m : Fin (size + 1), 1 ≤ m.val → m.val ≠ n → eligible m.val = true →
      searchDistance size position n < searchDistance size position m.val) : FirstAfter eligible size position n :=
  ⟨h1, h2, h3, fun m hm hs hn he => h ⟨m, by omega⟩ hm hn he⟩

theorem noneEligible_of {eligible : Nat → Bool} {size : Nat}
    (h : ∀ m : Fin (size + 1), 1 ≤ m.val → eligible m.val = false) : NoneEligible eligible size :=
  fun m hm hs => h ⟨m, by omega⟩ hm

/-- The only eligible member of all is the one a grant chooses, with the starvation count 0. -/
theorem chosen_alone {s : State} {n : Nat} {low : Bool} (hk : SchedulerKept s) (h1 : s.exchange = none)
    (h2 : s.link = .up) (h3 : s.holdInput = false)
    (hn : 1 ≤ n ∧ n ≤ (if low then 14 else 15))
    (hh : ∀ m : Fin 16, 1 ≤ m.val → (s.eligibleHigh m.val = true ↔ low = false ∧ m.val = n))
    (hl : ∀ m : Fin 15, 1 ≤ m.val → (s.eligibleLow m.val = true ↔ low = true ∧ m.val = n)) : Chosen s n low 0 := by
  refine ⟨hk, h1, h2, h3, ?_⟩
  cases low with
  | true =>
    refine ⟨firstAfter_of hn.1 hn.2 ((hl ⟨n, Nat.lt_succ_of_le hn.2⟩ hn.1).2 ⟨rfl, rfl⟩)
      (fun m hm hne he => absurd ((hl m hm).1 he).2 hne), Or.inl (noneEligible_of fun m hm => ?_), rfl⟩
    by_contra h
    exact absurd ((hh m hm).1 (by simpa using h)).1 (by decide)
  | false =>
    refine ⟨firstAfter_of hn.1 hn.2 ((hh ⟨n, Nat.lt_succ_of_le hn.2⟩ hn.1).2 ⟨rfl, rfl⟩)
      (fun m hm hne he => absurd ((hh m hm).1 he).2 hne), Or.inl ⟨noneEligible_of fun m hm => ?_, rfl⟩⟩
    by_contra h
    exact absurd ((hl m hm).1 (by simpa using h)).1 (by decide)

/-- Stations 4 and 9 of the given tiers, each with a QUEUED READ (section 4.7). -/
def twoStations (tiers : BitVec 14) (starvation : Nat) : State :=
  let s := { up with
    stations := (up.stations.set 3 live).set 8 live, settings := { up.settings with tiers := tiers }
    highPosition := 15, starvation := starvation }
  standing 1 { readRequest with station := 8, order := 1 } (standing 0 readRequest s)

theorem queuesExact_twoStations (tiers : BitVec 14) (n : Nat) : QueuesExact (twoStations tiers n) := by
  have h : QueuesExact (twoStations 0 0) := by
    unfold QueuesExact RequestsQueued PostedQueued BroadcastsQueued QueuesOnce
    decide +kernel
  exact h

theorem witness_GrantFollowsTiersAndPositions :
    (SchedulerKept (reading (.window 3)) ∧ QueuesExact (reading (.window 3)) ∧ (reading (.window 3)).exchange ≠ none) ∧
      (SchedulerKept up ∧ QueuesExact up ∧ NoneEligible up.eligibleHigh 15 ∧ NoneEligible up.eligibleLow 14) ∧
      (SchedulerKept (twoStations 0x100#14 7) ∧ QueuesExact (twoStations 0x100#14 7) ∧
        FirstAfter (twoStations 0x100#14 7).eligibleHigh 15 15 4 ∧
        ¬ NoneEligible (twoStations 0x100#14 7).eligibleLow 14 ∧ (twoStations 0x100#14 7).starvation < 8) ∧
      (FirstAfter (twoStations 0#14 0).eligibleHigh 15 15 4 ∧ NoneEligible (twoStations 0#14 0).eligibleLow 14) ∧
      (FirstAfter (twoStations 0x108#14 0).eligibleLow 14 0 4 ∧ NoneEligible (twoStations 0x108#14 0).eligibleHigh 15) ∧
      SchedulerKept (twoStations 0x100#14 8) ∧ FirstAfter (twoStations 0x100#14 8).eligibleLow 14 0 9 ∧
        8 ≤ (twoStations 0x100#14 8).starvation := by
  have hq : ∀ s : State, s = reading (.window 3) ∨ s = up → QueuesExact s := by
    unfold QueuesExact RequestsQueued PostedQueued BroadcastsQueued QueuesOnce
    rintro s (rfl | rfl) <;> decide +kernel
  exact ⟨⟨⟨by decide, by decide, by decide⟩, hq _ (Or.inl rfl), by decide⟩,
    ⟨⟨by decide, by decide, by decide⟩, hq _ (Or.inr rfl), noneEligible_of (by decide +kernel),
      noneEligible_of (by decide +kernel)⟩,
    ⟨⟨by decide, by decide, by decide⟩, queuesExact_twoStations _ _,
      firstAfter_of (by decide) (by decide) (by decide +kernel) (by decide +kernel),
      fun h => absurd (h 9 (by decide) (by decide)) (by decide +kernel), by decide⟩,
    ⟨firstAfter_of (by decide) (by decide) (by decide +kernel) (by decide +kernel), noneEligible_of (by decide +kernel)⟩,
    ⟨firstAfter_of (by decide) (by decide) (by decide +kernel) (by decide +kernel), noneEligible_of (by decide +kernel)⟩,
    ⟨by decide, by decide, by decide⟩,
    firstAfter_of (by decide) (by decide) (by decide +kernel) (by decide +kernel), by decide⟩

/-- Station 4 with the given record. -/
def withStation4 (st : Station) : State := { up with stations := up.stations.set 3 st }

/-- The write phase of the MODIFY of section 12.7. -/
def writingRequest : Request :=
  { modifyRequest with kind := .modify { modifyPart with phase := .write, oldValue := some 0x0034#16 } }

theorem witness_CandidatesFollowTheOrderOfPreference :
    ((withStation4 { live with state := .probing }).station 3).state = .probing ∧
      (up.station 0).state = .absent ∧ ((withStation4 { live with state := .lost }).station 3).state = .lost ∧
      ((up.station 3).state = .online ∧ (up.station 3).queue = []) ∧
      (((standing 0 readRequest up).station 3).state = .online ∧
        ((standing 0 readRequest up).station 3).queue = .request 0 :: [] ∧
        (standing 0 readRequest up).request 0 = some readRequest) ∧
      ((parked { readRequest with abandonPending := true } parkPart).request 0 =
          some { readRequest with abandonPending := true, state := .parked parkPart } ∧
        (parked readRequest { parkPart with collect := .expired }).request 0 =
          some { readRequest with state := .parked { parkPart with collect := .expired } } ∧
        (parked readRequest parkPart).request 0 = some { readRequest with state := .parked parkPart }) ∧
      ((standing 0 writingRequest up).request 0 = some writingRequest ∧ writingRequest.state = .queued ∧
        ∃ m, writingRequest.kind = .modify m ∧ m.phase = .write) ∧
      ((standingPosted 0 postedWrite up).station 3).queue = .posted 0 :: [] ∧
      (∃ p rest e, (broadcasting (.gap 0)).broadcastQueue = p :: rest ∧
        (broadcasting (.gap 0)).postedEntry p = some e) :=
  ⟨by decide +kernel, by decide +kernel, by decide +kernel, ⟨by decide +kernel, by decide +kernel⟩,
    ⟨by decide +kernel, by decide +kernel, by decide +kernel⟩,
    ⟨by decide +kernel, by decide +kernel, by decide +kernel⟩, ⟨by decide +kernel, rfl, ⟨_, rfl, rfl⟩⟩,
    by decide +kernel, ⟨0, [], { broadcastWrite with state := .active }, by decide +kernel, by decide +kernel⟩⟩

/-- The READ of tag 0, accepted after the broadcast of posted entry 0, heads station 4's queue. -/
def behindABroadcast : State :=
  standing 0 { readRequest with order := 5 } (standingPosted 0 { broadcastWrite with order := 2 } up)

/-- Station 4 with its poll due. -/
def pollIsDue : State := withStation4 { live with attentionCapable := true, pollDue := true }

theorem witness_CandidatesFollowTheOrderOfPreference_waits :
    (behindABroadcast.request 0 = some { readRequest with order := 5 } ∧ 0 ∈ behindABroadcast.broadcastQueue ∧
        behindABroadcast.postedEntry 0 = some { broadcastWrite with order := 2 } ∧
        (behindABroadcast.station 3).pollDue = false) ∧
      ((standing 0 readRequest pollIsDue).request 0 = some readRequest ∧
        ((standing 0 readRequest pollIsDue).station 3).attentionCapable = true ∧
        ((standing 0 readRequest pollIsDue).station 3).pollDue = true ∧
        ((standing 0 readRequest pollIsDue).station 3).queue = .request 0 :: []) ∧
      ((standing 0 { readRequest with state := .waiting 0 } up).request 0 =
          some { readRequest with state := .waiting 0 } ∧
        (standing 0 { writingRequest with state := .waiting 0 } up).request 0 =
          some { writingRequest with state := .waiting 0 } ∧
        (standing 0 { readRequest with state := .waiting 0 } pollIsDue).request 0 =
          some { readRequest with state := .waiting 0 }) ∧
      (standingPosted 0 { postedWrite with state := .waiting 0 } up).postedEntry 0 =
        some { postedWrite with state := .waiting 0 } ∧
      ((standingPosted 0 postedWrite pollIsDue).station 3).pollDue = true ∧
      (standingPosted 0 { postedWrite with state := .opened } up).postedEntry 0 =
        some { postedWrite with state := .opened } := by
  decide +kernel

theorem witness_GrantFormsARequestSegment :
    (∀ r ∈ [readRequest, { readRequest with kind := .confirmedWrite, data := List.replicate 16 7#16 }, modifyRequest,
        writingRequest],
      Chosen (standing 0 r up) (stationAddress 3) false 0 ∧ ((standing 0 r up).station 3).state = .online ∧
        ((standing 0 r up).station 3).queue = .request 0 :: [] ∧ (standing 0 r up).request 0 = some r ∧ r.station = 3 ∧
        r.state = .queued ∧ ((standing 0 r up).station 3).pollDue = false) ∧
      Chosen (standing 0 readRequest { up with settings := { up.settings with tiers := 0x8#14 } })
        (stationAddress 3) true 0 := by
  refine ⟨?_, chosen_alone ⟨by decide, by decide, by decide⟩ rfl rfl rfl (by decide) (by decide +kernel) (by decide +kernel)⟩
  intro r hr
  fin_cases hr <;>
    exact ⟨chosen_alone ⟨by decide, by decide, by decide⟩ rfl rfl rfl (by decide) (by decide +kernel) (by decide +kernel), by decide +kernel, by decide +kernel,
      by decide +kernel, rfl, rfl, by decide +kernel⟩

/-- Stations 4 and 9 both eligible: the first after the position is chosen, in either tier, under every clause of the
starvation guard. -/
theorem witness_GrantFormsARequestSegment_contested :
    Chosen (twoStations 0#14 0) (stationAddress 3) false 0 ∧ Chosen (twoStations 0x100#14 7) (stationAddress 3) false 8 ∧
      Chosen (twoStations 0x100#14 8) (stationAddress 8) true 0 ∧ Chosen (twoStations 0x108#14 0) (stationAddress 3) true 0 ∧
      (twoStations 0#14 0).eligibleHigh 9 = true ∧
      ((twoStations 0#14 0).station 3).queue = .request 0 :: [] ∧ (twoStations 0#14 0).request 0 = some readRequest ∧
      ((twoStations 0#14 0).station 3).pollDue = false := by
  refine ⟨⟨⟨by decide, by decide, by decide⟩, rfl, rfl, rfl, ?_⟩, ⟨⟨by decide, by decide, by decide⟩, rfl, rfl, rfl, ?_⟩, ⟨⟨by decide, by decide, by decide⟩, rfl, rfl, rfl, ?_⟩,
    ⟨⟨by decide, by decide, by decide⟩, rfl, rfl, rfl, ?_⟩, by decide +kernel, by decide +kernel, by decide +kernel, by decide +kernel⟩
  · exact ⟨firstAfter_of (by decide) (by decide) (by decide +kernel) (by decide +kernel),
      Or.inl ⟨noneEligible_of (by decide +kernel), rfl⟩⟩
  · exact ⟨firstAfter_of (by decide) (by decide) (by decide +kernel) (by decide +kernel),
      Or.inr ⟨fun h => absurd (h 9 (by decide) (by decide)) (by decide +kernel), by decide, rfl⟩⟩
  · exact ⟨firstAfter_of (by decide) (by decide) (by decide +kernel) (by decide +kernel), Or.inr (by decide), rfl⟩
  · exact ⟨firstAfter_of (by decide) (by decide) (by decide +kernel) (by decide +kernel),
      Or.inl (noneEligible_of (by decide +kernel)), rfl⟩

theorem witness_GrantFormsOtherFrames :
    (Chosen (withStation4 { live with state := .probing }) (stationAddress 3) false 0 ∧
        ((withStation4 { live with state := .probing }).station 3).state = .probing) ∧
      (Chosen (withStation4 { live with pollDue := true }) (stationAddress 3) false 0 ∧
        (withStation4 { live with pollDue := true }).candidate 3 = some .poll) ∧
      (Chosen (parked { readRequest with abandonPending := true } parkPart) (stationAddress 3) false 0 ∧
        (parked { readRequest with abandonPending := true } parkPart).request 0 =
          some { readRequest with abandonPending := true, state := .parked parkPart }) ∧
      (Chosen (parked readRequest { parkPart with collect := .expired }) (stationAddress 3) false 0 ∧
        ((parked readRequest { parkPart with collect := .expired }).station 3).queue = .request 0 :: [] ∧
        (parked readRequest { parkPart with collect := .expired }).request 0 =
          some { readRequest with state := .parked { parkPart with collect := .expired } }) ∧
      (Chosen (standingPosted 0 postedWrite up) (stationAddress 3) false 0 ∧
        ((standingPosted 0 postedWrite up).station 3).state = .online ∧
        ((standingPosted 0 postedWrite up).station 3).queue = .posted 0 :: [] ∧
        (standingPosted 0 postedWrite up).postedEntry 0 = some postedWrite ∧
        (standingPosted 0 postedWrite up).candidate 3 = some (.postedSegment 0)) ∧
      (Chosen (standingPosted 0 broadcastWrite up) 15 false 0 ∧
        (standingPosted 0 broadcastWrite up).broadcastQueue = 0 :: [] ∧
        (standingPosted 0 broadcastWrite up).postedEntry 0 = some broadcastWrite) :=
  ⟨⟨chosen_alone ⟨by decide, by decide, by decide⟩ rfl rfl rfl (by decide) (by decide +kernel) (by decide +kernel), by decide +kernel⟩,
    ⟨chosen_alone ⟨by decide, by decide, by decide⟩ rfl rfl rfl (by decide) (by decide +kernel) (by decide +kernel), by decide +kernel⟩,
    ⟨chosen_alone ⟨by decide, by decide, by decide⟩ rfl rfl rfl (by decide) (by decide +kernel) (by decide +kernel), by decide +kernel⟩,
    ⟨chosen_alone ⟨by decide, by decide, by decide⟩ rfl rfl rfl (by decide) (by decide +kernel) (by decide +kernel), by decide +kernel, by decide +kernel⟩,
    ⟨chosen_alone ⟨by decide, by decide, by decide⟩ rfl rfl rfl (by decide) (by decide +kernel) (by decide +kernel), by decide +kernel, by decide +kernel,
      by decide +kernel, by decide +kernel⟩,
    chosen_alone ⟨by decide, by decide, by decide⟩ rfl rfl rfl (by decide) (by decide +kernel) (by decide +kernel), by decide +kernel, by decide +kernel⟩

theorem witness_PassStartsTheNextIdentify :
    (State.reset.link ≠ .enumerating ∧ (reading (.window 0)).exchange ≠ none) ∧
      { State.reset with link := .enumerating, pass := [13] }.link = .enumerating ∧
      { State.reset with link := .enumerating, pass := [13] }.exchange = none ∧
      { State.reset with link := .enumerating, pass := [13] }.holdInput = false ∧
      { State.reset with link := .enumerating, pass := [13] }.pass = 13 :: [] := by decide

theorem witness_PairEventsMoveThePhase :
    up.exchange = none ∧
      (∀ phase ∈ [EnginePhase.pairWait 0, .sending 3#2, .window 255, .receiving 0#2],
        (reading phase).exchange = some (readExchange phase) ∧ (readExchange phase).kind ≠ .broadcast) ∧
      ∃ x, (broadcasting (.sending 1#2)).exchange = some x ∧ x.phase = .sending 1#2 ∧ x.kind = .broadcast :=
  ⟨rfl, by decide +kernel, ⟨_, rfl, rfl, rfl⟩⟩

/-- A reception whose last word is not the CRC of the others. -/
def badCrc : Reception := { ackFrame with words := [0x0490#16, 0#16] }

theorem witness_AttemptWithoutReplyIsRepeated :
    (∀ x n, up.exchange = some x → x.phase ≠ .window n) ∧ (∀ x rate, up.exchange = some x → x.phase ≠ .receiving rate) ∧
      ((reading (.window 0)).exchange = some (readExchange (.window 0)) ∧
        (readExchange (.window 0)).attempt < (readExchange (.window 0)).limit) ∧
      ((reading (.receiving 1#2)).exchange = some (readExchange (.receiving 1#2)) ∧
        (readExchange (.receiving 1#2)).attempt < (readExchange (.receiving 1#2)).limit ∧
        (reading (.receiving 1#2)).judgement (readExchange (.receiving 1#2)) badCrc = none) := by
  refine ⟨(fun x n h => by cases h), (fun x r h => by cases h), ⟨rfl, by decide⟩, rfl, by decide, by decide +kernel⟩

/-- The READ of tag 0 in its last attempt, with a posted entry behind it. -/
def lastAttempt (phase : EnginePhase) : State :=
  { standingPosted 0 postedWrite (reading phase) with exchange := some { readExchange phase with attempt := 4 } }

theorem witness_FailedExchangeLosesItsStation :
    ∀ c phase, (c = .replyWindowClose ∧ phase = .window 0) ∨ (c = .receptionOverrun ∧ phase = .receiving 1#2) ∨
        (c = .receptionEnd badCrc ∧ phase = .receiving 1#2) →
      Quiet (lastAttempt phase) ∧ QueuesExact (lastAttempt phase) ∧ FaultsKept (lastAttempt phase) ∧
        (∃ x, (lastAttempt phase).exchange = some x ∧ x.destination = .station 3 ∧ x.limit ≤ x.attempt ∧
          EndsFailed (lastAttempt phase) x c ∧ x.owner = .request 0) ∧
        EntryRef.request 0 ∈ ((lastAttempt phase).station 3).queue := by
  have hq : ∀ phase : EnginePhase, QueuesExact (lastAttempt phase) := by
    have h : QueuesExact (lastAttempt (.window 0)) := by
      unfold QueuesExact RequestsQueued PostedQueued BroadcastsQueued QueuesOnce
      decide +kernel
    exact fun phase => h
  rintro c phase (⟨rfl, rfl⟩ | ⟨rfl, rfl⟩ | ⟨rfl, rfl⟩)
  · exact ⟨⟨rfl, rfl⟩, hq _, faultsKept_of (by decide) (by decide) (by decide),
      ⟨_, rfl, rfl, by decide, ⟨0, rfl⟩, rfl⟩, by decide +kernel⟩
  · exact ⟨⟨rfl, rfl⟩, hq _, faultsKept_of (by decide) (by decide) (by decide),
      ⟨_, rfl, rfl, by decide, ⟨1#2, rfl⟩, rfl⟩, by decide +kernel⟩
  · exact ⟨⟨rfl, rfl⟩, hq _, faultsKept_of (by decide) (by decide) (by decide),
      ⟨_, rfl, rfl, by decide, ⟨⟨1#2, rfl⟩, by decide +kernel⟩, rfl⟩, by decide +kernel⟩

theorem witness_ReplyIsValidExactlyByTheFiveTests :
    (15 < 16 ∧ (16 : Nat) < 65536) ∧
      judge .readSegment true false 4 { address := 0x1000#16, count := 6, acceptedThrough := 0#8 } sixWords =
        some (.data [1#16, 2#16, 3#16, 4#16, 5#16, 6#16]) := by decide +kernel

theorem witness_OneCorruptedWordIsNeverAccepted :
    (0 < (closed [0x0490#16]).length ∧ (closed [0x0490#16])[0]? ≠ some 0x0590#16) ∧
      (1 < (closed [0x0490#16]).length ∧ (closed [0x0490#16])[1]? ≠ some 0#16 ∧
        badCrc.words = (closed [0x0490#16]).set 1 0#16) := by decide +kernel

/-! ### Witnesses of the replies -/

/-- A request entry ACTIVE in tag 0 with an exchange of the given kind receiving. -/
def receivingFor (r : Request) (kind : ExchangeKind) (frame : List Word) : State :=
  { standing 0 { r with state := .active } up with
    exchange := some (exchangeOf kind (.request 0) (.station 3) (closed frame) (.receiving 1#2)) }

/-- The exchange in flight, if any. -/
def flight (s : State) : Exchange :=
  s.exchange.getD (readExchange (.gap 0))

/-- A WRITE of one word in tag 0, its exchange receiving. -/
def writing : State :=
  receivingFor { readRequest with kind := .confirmedWrite, count := 1, data := [7#16] } .writeSegment
    [header 4 2 false false true, 0x1000#16, 1#16, 7#16]

theorem witness_SegmentReplyAdvancesOrEndsTheRequest :
    (Quiet (reading (.receiving 1#2)) ∧
        Receives (reading (.receiving 1#2)) (readExchange (.receiving 1#2)) sixWords
          (.data [1#16, 2#16, 3#16, 4#16, 5#16, 6#16]) ∧
        CarriesRequest (reading (.receiving 1#2)) (readExchange (.receiving 1#2)) 0 { readRequest with state := .active } ∧
        (readExchange (.receiving 1#2)).kind = .readSegment ∧ readRequest.kind = .read) ∧
      (Quiet writing ∧ Receives writing (flight writing) ackFrame .ack ∧
        CarriesRequest writing (flight writing) 0
          { readRequest with kind := .confirmedWrite, count := 1, data := [7#16], state := .active } ∧
        (flight writing).kind = .writeSegment) ∧
      Receives writing (flight writing) (nakFrame 1#16) (.nak .busy) ∧
      Receives writing (flight writing) (nakFrame 2#16) (.nak .reject) ∧
      Receives writing (flight writing) (nakFrame 3#16) (.nak .fault) :=
  ⟨⟨⟨rfl, rfl⟩, ⟨rfl, ⟨_, rfl⟩, by decide +kernel⟩, ⟨rfl, rfl, by decide +kernel, rfl, fun w h => by cases h⟩, rfl, rfl⟩,
    ⟨⟨rfl, rfl⟩, ⟨rfl, ⟨_, rfl⟩, by decide +kernel⟩, ⟨rfl, rfl, by decide +kernel, rfl, fun w h => by cases h⟩, rfl⟩,
    ⟨rfl, ⟨_, rfl⟩, by decide +kernel⟩, ⟨rfl, ⟨_, rfl⟩, by decide +kernel⟩, ⟨rfl, ⟨_, rfl⟩, by decide +kernel⟩⟩

/-- A PARKED frame from station 4. -/
def parkedFrame : Reception := frameOf [0x04B0#16]

/-- A COLLECT or ABANDON of the parked READ in tag 0, receiving. -/
def asking (kind : ExchangeKind) (part : ParkPart) : State :=
  { parked readRequest part with
    exchange := some (exchangeOf kind (.request 0) (.station 3) (closed [header 4 4 false false false]) (.receiving 1#2)) }

/-- A parked segment that is a WRITE. -/
def parkedWritePart : ParkPart := { parkPart with segment := { parkPart.segment with write := true } }

theorem witness_ParkedWorkIsCollectedOrAbandoned :
    (Quiet (reading (.receiving 1#2)) ∧
        Receives (reading (.receiving 1#2)) (readExchange (.receiving 1#2)) parkedFrame .parked ∧
        CarriesRequest (reading (.receiving 1#2)) (readExchange (.receiving 1#2)) 0 { readRequest with state := .active }) ∧
      (Quiet (asking .collect parkPart) ∧
        CarriesParked (asking .collect parkPart) (flight (asking .collect parkPart)) 0
          { readRequest with state := .parked parkPart } parkPart ∧
        Receives (asking .collect parkPart) (flight (asking .collect parkPart)) sixWords
          (.data [1#16, 2#16, 3#16, 4#16, 5#16, 6#16]) ∧
        Receives (asking .collect parkPart) (flight (asking .collect parkPart)) parkedFrame .parked ∧
        Receives (asking .collect parkPart) (flight (asking .collect parkPart)) (nakFrame 1#16) (.nak .busy) ∧
        Receives (asking .collect parkPart) (flight (asking .collect parkPart)) (nakFrame 2#16) (.nak .reject) ∧
        Receives (asking .collect parkPart) (flight (asking .collect parkPart)) (nakFrame 3#16) (.nak .fault)) ∧
      (Receives (asking .collect parkedWritePart) (flight (asking .collect parkedWritePart)) ackFrame .ack) ∧
      (Quiet (asking .abandon parkPart) ∧
        CarriesParked (asking .abandon parkPart) (flight (asking .abandon parkPart)) 0
          { readRequest with state := .parked parkPart } parkPart ∧
        Receives (asking .abandon parkPart) (flight (asking .abandon parkPart)) ackFrame .ack) :=
  ⟨⟨⟨rfl, rfl⟩, ⟨rfl, ⟨_, rfl⟩, by decide +kernel⟩, rfl, rfl, by decide +kernel, rfl, fun w h => by cases h⟩,
    ⟨⟨rfl, rfl⟩, ⟨rfl, rfl, by decide +kernel, rfl, fun w h => by cases h⟩, ⟨rfl, ⟨_, rfl⟩, by decide +kernel⟩,
      ⟨rfl, ⟨_, rfl⟩, by decide +kernel⟩, ⟨rfl, ⟨_, rfl⟩, by decide +kernel⟩, ⟨rfl, ⟨_, rfl⟩, by decide +kernel⟩,
      ⟨rfl, ⟨_, rfl⟩, by decide +kernel⟩⟩,
    ⟨rfl, ⟨_, rfl⟩, by decide +kernel⟩,
    ⟨rfl, rfl⟩, ⟨rfl, rfl, by decide +kernel, rfl, fun w h => by cases h⟩, rfl, ⟨_, rfl⟩, by decide +kernel⟩

/-- The read phase of the MODIFY of section 12.7, receiving. -/
def modifyReading : State := receivingFor modifyRequest .modifyRead [header 4 1 false true true, 0x0120#16, 1#16]

/-- Its write phase, receiving. -/
def modifyWriting : State :=
  receivingFor writingRequest .modifyWrite [header 4 2 false true true, 0x0120#16, 1#16, 0x0534#16]

/-- DATA of one word from 0120h. -/
def oneWord (v : Word) : Reception := frameOf [0x0480#16, 0x0120#16, 1#16, v]

theorem witness_ModifyFollowsItsRelation :
    (Quiet modifyReading ∧ Receives modifyReading (flight modifyReading) (oneWord 0x0034#16) (.data [0x0034#16]) ∧
        CarriesRequest modifyReading (flight modifyReading) 0 { modifyRequest with state := .active } ∧
        modifyRequest.kind = .modify modifyPart ∧ (flight modifyReading).kind = .modifyRead ∧
        Holds modifyPart.relation (0x0034#16 &&& modifyPart.compareMask) (modifyPart.operand &&& modifyPart.compareMask)) ∧
      (Receives modifyReading (flight modifyReading) (oneWord 0#16) (.data [0#16]) ∧
        ¬ Holds modifyPart.relation (0#16 &&& modifyPart.compareMask) (modifyPart.operand &&& modifyPart.compareMask)) ∧
      (Quiet modifyWriting ∧ Receives modifyWriting (flight modifyWriting) ackFrame .ack ∧
        CarriesRequest modifyWriting (flight modifyWriting) 0 { writingRequest with state := .active } ∧
        (flight modifyWriting).kind = .modifyWrite) ∧
      Receives modifyWriting (flight modifyWriting) (nakFrame 1#16) (.nak .busy) ∧
      Receives modifyReading (flight modifyReading) (nakFrame 3#16) (.nak .fault) :=
  ⟨⟨⟨rfl, rfl⟩, ⟨rfl, ⟨_, rfl⟩, by decide +kernel⟩, ⟨rfl, rfl, by decide +kernel, rfl, fun w h => by cases h⟩, rfl, rfl,
      show _ = _ by decide⟩,
    ⟨⟨rfl, ⟨_, rfl⟩, by decide +kernel⟩, show ¬ _ = _ by decide⟩,
    ⟨⟨rfl, rfl⟩, ⟨rfl, ⟨_, rfl⟩, by decide +kernel⟩, ⟨rfl, rfl, by decide +kernel, rfl, fun w h => by cases h⟩, rfl⟩,
    ⟨rfl, ⟨_, rfl⟩, by decide +kernel⟩, ⟨rfl, ⟨_, rfl⟩, by decide +kernel⟩⟩

/-- A posted entry's segment of one word, receiving. -/
def posting (e : Posted) : State :=
  { standingPosted 0 { e with state := .active } up with
    exchange := some (exchangeOf .writeSegment (.posted 0) (.station 3)
      (closed [header 4 2 false true true, 0x0040#16, 1#16, 0x00AA#16]) (.receiving 1#2)) }

theorem witness_PostedWorkIsDeliveredOrReported :
    (∀ e ∈ [postedWrite, { postedWrite with data := [0x00AA#16, 2#16] },
        { postedWrite with data := [0x00AA#16, 2#16], flushPending := true }],
      Quiet (posting e) ∧ FaultsKept (posting e) ∧ Receives (posting e) (flight (posting e)) ackFrame .ack ∧
        Receives (posting e) (flight (posting e)) (nakFrame 1#16) (.nak .busy) ∧
        Receives (posting e) (flight (posting e)) (nakFrame 2#16) (.nak .reject) ∧
        Receives (posting e) (flight (posting e)) (nakFrame 3#16) (.nak .fault) ∧
        CarriesPosted (posting e) (flight (posting e)) 0 { e with state := .active } 3) ∧
      (∀ x n, up.exchange = some x → x.phase ≠ .gap n) ∧
      ∃ x, Quiet (broadcasting (.gap 0)) ∧ (broadcasting (.gap 0)).exchange = some x ∧ x.kind = .broadcast ∧
        x.phase = .gap 0 ∧ x.owner = .posted 0 ∧
        (broadcasting (.gap 0)).postedEntry 0 = some { broadcastWrite with state := .active } ∧
        broadcastWrite.target = .broadcast := by
  refine ⟨?_, (fun x n h => by cases h), _, ⟨rfl, rfl⟩, rfl, rfl, rfl, rfl, by decide +kernel, rfl⟩
  intro e he
  fin_cases he <;>
    exact ⟨⟨rfl, rfl⟩, faultsKept_of (by decide) (by decide) (by decide), ⟨rfl, ⟨_, rfl⟩, by decide +kernel⟩,
      ⟨rfl, ⟨_, rfl⟩, by decide +kernel⟩, ⟨rfl, ⟨_, rfl⟩, by decide +kernel⟩, ⟨rfl, ⟨_, rfl⟩, by decide +kernel⟩,
      rfl, rfl, rfl, rfl, by decide +kernel, rfl⟩

/-- A POLL of station 4 with accepted-through 19, receiving. -/
def polling : State :=
  { up with
    exchange := some (exchangeOf .poll (.station 3) (.station 3) (closed [0x4030#16, 19#16]) (.receiving 1#2)) }

theorem witness_PollRepliesFillTheAttentionQueue :
    Quiet polling ∧ Receives polling (flight polling) (frameOf [0x04D0#16]) .quiet ∧ (flight polling).kind = .poll ∧
      (flight polling).owner = .station 3 ∧ (flight polling).destination = .station 3 ∧
      Receives polling (flight polling) (frameOf [0x04C1#16, 19#16, 1#16, 0x1403#16, 7#16])
        (.attn [{ sequence := 20#8, code := 3#8, info := 7#16 }] true) :=
  ⟨⟨rfl, rfl⟩, ⟨rfl, ⟨_, rfl⟩, by decide +kernel⟩, rfl, rfl, rfl, rfl, ⟨_, rfl⟩, by decide +kernel⟩

/-- The IDENTIFY of station 4 receiving, in a link state and a pass. -/
def identifying (link : LinkState) (pass : List StationId) (attempt : Nat) : State :=
  { withStation4 { live with state := .probing } with
    link := link, pass := pass
    exchange := some
      { exchangeOf .identify (.station 3) (.station 3) (closed [0x4060#16]) (.receiving 1#2) with attempt := attempt } }

/-- An IDENTITY of station 4: class 1234h, revision 7, attention and park capable, max burst 16, attention base 40. -/
def identityFrame : Reception := frameOf [0x04E0#16, 0x1234#16, 0x07D0#16, 40#16]

/-- The fields it carries. -/
def identityOf4 : Identity :=
  { stationClass := 0x1234#16, revision := 7#8, maxBurst := 16, parkCapable := true, attentionCapable := true
    attentionBase := 40#8 }

theorem witness_IdentityMakesItsStationOnline :
    (∀ s, s = identifying .up [] 1 ∨ s = identifying .enumerating [3] 1 ∨ s = identifying .enumerating [3, 8] 1 →
      s.access = none ∧ s.exchange = some (flight s) ∧ (flight s).kind = .identify ∧
        (flight s).owner = .station 3 ∧ (flight s).destination = .station 3 ∧
        Receives s (flight s) identityFrame (.identity identityOf4)) ∧
      ∀ pass, pass = [3] ∨ pass = [3, 8] →
        (flight (identifying .enumerating pass 4)).limit ≤ (flight (identifying .enumerating pass 4)).attempt ∧
          EndsFailed (identifying .enumerating pass 4) (flight (identifying .enumerating pass 4)) .receptionOverrun := by
  constructor
  · rintro s (rfl | rfl | rfl) <;>
      exact ⟨rfl, rfl, rfl, rfl, rfl, rfl, ⟨_, rfl⟩, by decide +kernel⟩
  · rintro pass (rfl | rfl) <;> exact ⟨by decide, ⟨_, rfl⟩⟩

/-- A stale window entry. -/
def staleRequest : Request := windowRequest4 { freshPart with stale := true }

/-- Its first segment of six words from 0200h, receiving. -/
def staleReading : State := receivingFor staleRequest .readSegment [header 4 1 false false true, 0x0200#16, 6#16]

/-- A COLLECT of it, receiving. -/
def staleAsking : State :=
  { parked staleRequest parkPart with
    exchange := some (exchangeOf .collect (.request 0) (.station 3) (closed [header 4 4 false false false]) (.receiving 1#2)) }

theorem witness_StaleEntryIsFreedByItsExchange :
    (Quiet staleReading ∧ Receives staleReading (flight staleReading) (nakFrame 1#16) (.nak .busy) ∧
        Receives staleReading (flight staleReading) parkedFrame .parked ∧ (flight staleReading).owner = .request 0 ∧
        (flight staleReading).destination = .station staleRequest.station ∧
        staleReading.request 0 = some { staleRequest with state := .active } ∧
        (flight staleReading).kind = .readSegment) ∧
      (Quiet staleAsking ∧ Receives staleAsking (flight staleAsking) sixWords
          (.data [1#16, 2#16, 3#16, 4#16, 5#16, 6#16]) ∧
        Receives staleAsking (flight staleAsking) (nakFrame 1#16) (.nak .busy) ∧
        staleAsking.request 0 = some { staleRequest with state := .parked parkPart } ∧
        (flight staleAsking).kind = .collect) :=
  ⟨⟨⟨rfl, rfl⟩, ⟨rfl, ⟨_, rfl⟩, by decide +kernel⟩, ⟨rfl, ⟨_, rfl⟩, by decide +kernel⟩, rfl, rfl, by decide +kernel,
      rfl⟩,
    ⟨rfl, rfl⟩, ⟨rfl, ⟨_, rfl⟩, by decide +kernel⟩, ⟨rfl, ⟨_, rfl⟩, by decide +kernel⟩, by decide +kernel, rfl⟩

/-! ### Witnesses of the exchanges that end while the link is DRAINING or an access is held -/

/-- The exchange that ends in a state, after it: gone, or repeated. -/
def ends (c : Instr) (s : State) : Bool := (after c s).exchange.isNone

theorem witness_DrainEndFinishesAllWork_exchange :
    (∀ s ∈ [reading (.window 0), lastAttempt (.window 0)],
        { s with link := .draining }.link = .draining ∧ { s with link := .draining }.exchange ≠ none) ∧
      (∀ s, exec .replyWindowClose s = .next (after .replyWindowClose s)) ∧
      FaultsKept { lastAttempt (.window 0) with link := .draining } ∧ MayEndExchange .replyWindowClose ∧
      (after .replyWindowClose (reading (.window 0))).exchange ≠ none ∧ ends .replyWindowClose (lastAttempt (.window 0)) ∧
      ends (.receptionEnd sixWords) (reading (.receiving 1#2)) ∧ MayEndExchange (.receptionEnd sixWords) ∧
      ends .broadcastGapEnd (broadcasting (.gap 0)) ∧ MayEndExchange .broadcastGapEnd :=
  ⟨by decide +kernel, fun _ => rfl, faultsKept_of (by decide) (by decide) (by decide), Or.inl rfl, by decide +kernel, by decide +kernel,
    by decide +kernel, Or.inr (Or.inr (Or.inr ⟨_, rfl⟩)), by decide +kernel, Or.inr (Or.inr (Or.inl rfl))⟩

/-- A window entry of the given count in tag 0, its first segment of six words from 0200h receiving, in an attempt; a read
of 0204h is held on it. -/
def heldReading (count attempt : Nat) : State :=
  let r := { windowRequest4 { freshPart with held := true } with count := count }
  let s := receivingFor r .readSegment [header 4 1 false false true, 0x0200#16, 6#16]
  { s with
    exchange := s.exchange.map fun x => { x with attempt := attempt }, access := some (.read 0 0x0204#16 5) }

/-- A DATA of six words from 0200h. -/
def sixFrom0200 : Reception := frameOf [0x0480#16, 0x0200#16, 6#16, 1#16, 2#16, 3#16, 4#16, 5#16, 6#16]

/-- A held read's exchange: repeated, ended with the entry in progress, ended with it DONE SUCCESS, and ended with it DONE
NO-RESPONSE. -/
theorem witness_ReadHoldEndsDeferredOrAnswered_exchange :
    (∀ s ∈ [heldReading 16 1, heldReading 6 1, heldReading 6 4],
        s.link ≠ .draining ∧ s.exchange ≠ none ∧ s.access = some (.read 0 0x0204#16 5)) ∧
      (∀ s, exec .receptionOverrun s = .next (after .receptionOverrun s)) ∧
      QueuesExact (heldReading 6 4) ∧ MayEndExchange .receptionOverrun ∧
      (after .receptionOverrun { heldReading 6 1 with access := none }).exchange ≠ none ∧
      (ends (.receptionEnd sixFrom0200) { heldReading 16 1 with access := none } ∧
        ((after (.receptionEnd sixFrom0200) { heldReading 16 1 with access := none }).request 0).map (·.state) =
          some .queued) ∧
      (ends (.receptionEnd sixFrom0200) { heldReading 6 1 with access := none } ∧
        ((after (.receptionEnd sixFrom0200) { heldReading 6 1 with access := none }).request 0).map
          (fun r => (r.state, r.origin)) = some (.done .success, .window
            { freshPart with held := true, discard := some 20000 })) ∧
      ends .receptionOverrun { heldReading 6 4 with access := none } ∧
        ((after .receptionOverrun { heldReading 6 4 with access := none }).request 0).map (·.state) =
          some (.done .noResponse) := by
  refine ⟨by decide +kernel, fun _ => rfl, ?_, Or.inr (Or.inl rfl), by decide +kernel, by decide +kernel, by decide +kernel,
    by decide +kernel, by decide +kernel⟩
  unfold QueuesExact RequestsQueued PostedQueued BroadcastsQueued QueuesOnce
  decide +kernel

/-- A write held while the exchange of a posted entry of station 4 ends; with `full`, every other posted entry is taken. -/
def heldWriting (full : Bool) : State :=
  let s := posting postedWrite
  heldWrite { s with posted := if full then (Vector.replicate 16 (some postedWrite)).set 0 s.posted[0] else s.posted }

/-- A write held, the Posted Store full, while the READ of tag 0 ends in the given attempt. -/
def heldBehindARead (attempt : Nat) : State :=
  heldWrite { reading (.receiving 1#2) with
    posted := Vector.replicate 16 (some postedWrite)
    exchange := some { readExchange (.receiving 1#2) with attempt := attempt } }

/-- A held write's exchange: repeated, ended without a loss or space, ended with space, and ended with its station LOST. -/
theorem witness_WriteHoldEndsDroppedOrAccepted_exchange :
    (∀ s ∈ [heldBehindARead 1, heldBehindARead 4, heldWriting true],
        s.link ≠ .draining ∧ s.exchange ≠ none ∧ s.access = some (.write 0x0206#16 7#16 5)) ∧
      (∀ s rc, exec (.receptionEnd rc) s = .next (after (.receptionEnd rc) s)) ∧
      FaultsKept (heldWriting true) ∧ FaultsKept (heldBehindARead 1) ∧
      (after .receptionOverrun { heldBehindARead 1 with access := none }).exchange ≠ none ∧
      (let m := after (.receptionEnd sixWords) { heldBehindARead 1 with access := none };
        m.exchange = none ∧ (m.station m.settings.windowStation).state = .online ∧
          ∀ p : PostedIndex, m.postedEntry p ≠ none) ∧
      (let m := after (.receptionEnd ackFrame) { heldWriting true with access := none };
        m.exchange = none ∧ (m.station m.settings.windowStation).state = .online ∧ m.postedEntry 0 = none ∧
          m.poolUsed < 128) ∧
      let m := after .receptionOverrun { heldBehindARead 4 with access := none };
      m.exchange = none ∧ (m.station m.settings.windowStation).state ≠ .online :=
  ⟨by decide +kernel, fun _ _ => rfl, faultsKept_of (by decide) (by decide) (by decide), faultsKept_of (by decide) (by decide) (by decide),
    by decide +kernel, by decide +kernel, by decide +kernel, by decide +kernel⟩

/-! ### Witnesses of the invariants -/

/-- A state with work of every kind in progress, a command waiting. -/
def working : State :=
  { standingPosted 1 { broadcastWrite with order := 4 } flushed with pending := [.replyWindowClose] }

theorem witness_QueueDisciplineIsKept :
    (∃ t, step working = .next t) ∧ QueuesExact working ∧ OrdersRising working ∧ OnlyHeadsBusy working ∧
      OwnerStands working := by
  refine ⟨⟨_, rfl⟩, ?_, ?_, ?_, ?_⟩
  · unfold QueuesExact RequestsQueued PostedQueued BroadcastsQueued QueuesOnce; decide +kernel
  · unfold OrdersRising; decide +kernel
  · unfold OnlyHeadsBusy; decide +kernel
  · unfold OwnerStands; decide +kernel

theorem witness_ReportListsAreKept :
    (∃ t, step { completedEntry .read with pending := [.nextCompletion] } = .next t) ∧
      CompletionsExact { completedEntry .read with pending := [.nextCompletion] } ∧ AttentionKept oneItem ∧
      FaultsKept (faulty 8 255) := by
  refine ⟨⟨_, rfl⟩, ?_, ?_, faultsKept_of (by decide) (by decide) (by decide)⟩
  · unfold CompletionsExact; decide +kernel
  · unfold AttentionKept; decide +kernel

theorem witness_CapacitiesAndRangesAreKept :
    (∃ t, step working = .next t) ∧ PoolKept working ∧ WindowQuotaKept working ∧ WindowQuotaKept (quotaFull .queued) ∧
      OneOpen (withOpen 16) ∧ StagingKept (stagedWords 16) ∧ SettingsInRange working.settings ∧ SchedulerKept working ∧
      AttemptsKept (lastAttempt (.window 0)) ∧ PollsKept (withStation4 { live with pollDue := true }) ∧
      DownIsQuiet State.reset ∧ (OwnerStands working ∧ WordsDoneKept working) ∧
      (DownIsQuiet working ∧ PassKept working ∧ OnlineQueuesOnly working) ∧
      PassKept (identifying .enumerating [3, 8] 1) ∧ OnlineQueuesOnly (identifying .enumerating [3, 8] 1) := by
  refine ⟨⟨_, rfl⟩, ?_, ?_, ?_, oneOpen_withOpen 16 (by decide +kernel), ?_, ?_, ⟨by decide, by decide, by decide⟩, ?_, ?_,
    ?_, ⟨?_, ?_⟩, ⟨?_, ?_, ?_⟩, ?_, ?_⟩
  · unfold PoolKept; decide +kernel
  · unfold WindowQuotaKept; decide +kernel
  · unfold WindowQuotaKept; decide +kernel
  · unfold StagingKept; decide +kernel
  · unfold SettingsInRange; decide +kernel
  · unfold AttemptsKept; decide +kernel
  · unfold PollsKept; decide +kernel
  · unfold DownIsQuiet; decide +kernel
  · unfold OwnerStands; decide +kernel
  · unfold WordsDoneKept; decide +kernel
  · unfold DownIsQuiet; decide +kernel
  · unfold PassKept; decide +kernel
  · unfold OnlineQueuesOnly; decide +kernel
  · unfold PassKept; decide +kernel
  · unfold OnlineQueuesOnly; decide +kernel

end Sys2Proof.Tests
end

section
/-! PROOFS. Requests and station queues: STAGE-CLEAR (R8) and RELEASE (R25). -/

namespace Sys2Proof.Proofs

open Sys2Proof.Machine Sys2Proof.Claims

/-! ### Commands at a ready port -/

/-- A ready port carries a command out at once, with COMMAND holding its code (R183, R187). -/
theorem hostCommand_of_portReady (c : HostCommand) {s : State} (h : PortReady s) :
    hostCommand c s = commandEffect c (withCode s (commandCode c)) := by
  obtain ⟨hreset, haccess, hwaiting⟩ := h
  exact onPort_ready hreset haccess hwaiting

theorem exec_stageClear_of_portReady {s : State} (h : PortReady s) :
    exec .stageClear s = .next (stageClear (withCode s 0x11#8)) :=
  congrArg Host.Outcome.next (hostCommand_of_portReady .stageClear h)

theorem exec_release_of_portReady {s : State} (h : PortReady s) :
    exec .release s = .next (release (withCode s 0x21#8)) :=
  congrArg Host.Outcome.next (hostCommand_of_portReady .release h)

/-! ### The tag a parameter names (R188) -/

theorem tagAt_eq_some {n : Nat} {u : Tag} (h : n = u.val) : tagAt n = some u := by
  subst h
  simp [tagAt]

theorem tagAt_eq_none {n : Nat} (h : 15 < n) : tagAt n = none :=
  dif_neg (by omega)

/-! ### RELEASE by the entry PARAMETER names (R25) -/

theorem release_of_no_tag {s : State} (ht : tagAt s.parameter.toNat = none) :
    release s = s.setResult .noSuchTag := by
  simp [release, ht]

theorem release_of_free {s : State} {u : Tag} (ht : tagAt s.parameter.toNat = some u) (hu : s.request u = none) :
    release s = s.setResult .noSuchTag := by
  simp [release, ht, hu]

theorem release_of_delivered {s : State} {u : Tag} {r : Request} {status : Status}
    (ht : tagAt s.parameter.toNat = some u) (hu : s.request u = some r) (horigin : r.origin = .port)
    (hstate : r.state = .delivered status) : release s = (s.putRequest u none).setResult .accepted := by
  simp [release, ht, hu, horigin, hstate]

/-- An entry that is not both of origin PORT and DELIVERED is not released. -/
theorem release_of_not_delivered {s : State} {u : Tag} {r : Request} (ht : tagAt s.parameter.toNat = some u)
    (hu : s.request u = some r) (h : r.origin ≠ .port ∨ ∀ status, r.state ≠ .delivered status) :
    release s = s.setResult .wrongState := by
  simp only [release, ht, hu]
  split
  next status horigin hstate =>
    rcases h with hnotPort | hnotDelivered
    · exact absurd horigin hnotPort
    · exact absurd hstate (hnotDelivered status)
  next => rfl

/-! ### The obligations -/

/-- Settles O9: a ready port carries STAGE-CLEAR out, and its effect reads no link state. -/
theorem stageClearEmptiesTheStagedData : Obligations.StageClearEmptiesTheStagedData :=
  fun _ hready => exec_stageClear_of_portReady hready

/-- Settles O15, by the entry PARAMETER names: none, FREE, a DELIVERED PORT entry, or any other. -/
theorem releaseFreesOnlyADeliveredEntry : Obligations.ReleaseFreesOnlyADeliveredEntry := by
  intro s hready
  rw [exec_release_of_portReady hready]
  refine ⟨fun habove => ?noTag, fun u hu => ⟨fun hfree => ?free, fun r hr =>
    ⟨fun status horigin hstate => ?delivered, fun hother => ?other⟩⟩⟩
  case noTag => exact congrArg Host.Outcome.next (release_of_no_tag (tagAt_eq_none habove))
  case free => exact congrArg Host.Outcome.next (release_of_free (tagAt_eq_some hu) hfree)
  case delivered =>
    exact congrArg Host.Outcome.next (release_of_delivered (tagAt_eq_some hu) hr horigin hstate)
  case other => exact congrArg Host.Outcome.next (release_of_not_delivered (tagAt_eq_some hu) hr hother)

end Sys2Proof.Proofs
end

section
/-! PROOFS. Stations: what changes the held field (R39). The layer below says of each operation that it leaves every
station record, or every held field, as it was; the last part takes the rows of the table one by one. -/

namespace Sys2Proof.Proofs

open Sys2Proof.Machine Sys2Proof.Claims

/-! ### The held fields of the station records -/

/-- The held field of every station record (R34). -/
def heldMarks (stations : Vector Station 14) : StationId → Bool := fun i => stations[i].held

theorem station_held (s : State) (i : StationId) : (s.station i).held = heldMarks s.stations i := rfl

theorem heldMarks_reset : heldMarks State.reset.stations = fun _ => false := by
  funext i
  simp [heldMarks, State.reset, Station.reset]

@[simp] theorem heldMarks_tabulate (f : StationId → Station) : heldMarks (tabulate f) = fun i => (f i).held := by
  funext i
  exact congrArg Station.held (tabulate_get f i)

/-- A record put back with its held field as it was. -/
@[simp] theorem heldMarks_set {stations : Vector Station 14} {i : StationId} {st : Station}
    (h : st.held = stations[i.val].held) : heldMarks (stations.set i st) = heldMarks stations := by
  funext j
  by_cases hij : i = j
  · subst hij
    simpa [heldMarks] using h
  · have hne : i.val ≠ j.val := fun he => hij (Fin.ext he)
    simp [heldMarks, hne]

theorem heldMarks_foldl {α : Type} {f : State → α → State}
    (h : ∀ s x, heldMarks (f s x).stations = heldMarks s.stations) (l : List α) (s : State) :
    heldMarks (l.foldl f s).stations = heldMarks s.stations := by
  induction l generalizing s with
  | nil => rfl
  | cons x l ih => rw [List.foldl_cons, ih, h]

/-! ### Changes of one record that keep its held field -/

@[simp] theorem held_makePollDue (st : Station) : st.makePollDue.held = st.held := by
  unfold Station.makePollDue
  split <;> rfl

@[simp] theorem held_pollExpired (st : Station) : st.pollExpired.held = st.held := by
  unfold Station.pollExpired
  split
  · rw [held_makePollDue]
  · rfl

@[simp] theorem held_drained (st : Station) : st.drained.held = st.held := rfl

/-! ### Operations that leave every station record as it was -/

@[simp] theorem stations_updateRequest (s : State) (t : Tag) (f : Request → Request) :
    (s.updateRequest t f).stations = s.stations := by
  unfold State.updateRequest
  split <;> rfl

@[simp] theorem stations_updatePosted (s : State) (p : PostedIndex) (f : Posted → Posted) :
    (s.updatePosted p f).stations = s.stations := by
  unfold State.updatePosted
  split <;> rfl

@[simp] theorem stations_appendFault (s : State) (f : FaultRecord) : (s.appendFault f).stations = s.stations := by
  unfold State.appendFault
  split <;> rfl

@[simp] theorem stations_markStale (target : Target) (s : State) : (markStale target s).stations = s.stations := rfl

@[simp] theorem stations_closeOpen (s : State) : (closeOpen s).stations = s.stations := rfl

@[simp] theorem stations_accepted (n : Nat) (s : State) : (accepted n s).stations = s.stations := rfl

@[simp] theorem stations_dropWrite (address : Word) (s : State) : (dropWrite address s).stations = s.stations := by
  simp [dropWrite]

@[simp] theorem stations_beginReadHold (t : Tag) (r : Request) (w : WindowPart) (address : Word) (s : State) :
    (beginReadHold t r w address s).stations = s.stations := rfl

@[simp] theorem stations_endHeldRead (s : State) : (endHeldRead s).stations = s.stations := by
  unfold endHeldRead
  split <;> rfl

@[simp] theorem stations_beginExchange (kind : ExchangeKind) (owner : Owner) (destination : Target) (frame : List Word)
    (s : State) : (beginExchange kind owner destination frame s).stations = s.stations := rfl

@[simp] theorem stations_advancePass (x : Exchange) (s : State) : (advancePass x s).stations = s.stations := by
  unfold advancePass
  split
  · split <;> rfl
  · rfl

/-! ### Operations on entries and queues -/

@[simp] theorem heldMarks_enqueue (s : State) (i : StationId) (x : EntryRef) :
    heldMarks (s.enqueue i x).stations = heldMarks s.stations := by
  simp [State.enqueue]

@[simp] theorem heldMarks_dequeue (s : State) (i : StationId) (x : EntryRef) :
    heldMarks (s.dequeue i x).stations = heldMarks s.stations := by
  simp [State.dequeue]

@[simp] theorem heldMarks_enqueuePosted (s : State) (target : Target) (p : PostedIndex) :
    heldMarks (s.enqueuePosted target p).stations = heldMarks s.stations := by
  cases target with
  | station i => exact heldMarks_enqueue s i (.posted p)
  | broadcast => rfl

@[simp] theorem heldMarks_dequeuePosted (s : State) (target : Target) (p : PostedIndex) :
    heldMarks (s.dequeuePosted target p).stations = heldMarks s.stations := by
  cases target with
  | station i => exact heldMarks_dequeue s i (.posted p)
  | broadcast => rfl

@[simp] theorem heldMarks_acceptRequest (t : Tag) (r : Request) (s : State) :
    heldMarks (acceptRequest t r s).stations = heldMarks s.stations := by
  simp [acceptRequest]

@[simp] theorem heldMarks_acceptPosted (p : PostedIndex) (e : Posted) (s : State) :
    heldMarks (acceptPosted p e s).stations = heldMarks s.stations := by
  simp [acceptPosted]

@[simp] theorem heldMarks_completeRequest (t : Tag) (status : Status) (s : State) :
    heldMarks (completeRequest t status s).stations = heldMarks s.stations := by
  unfold completeRequest
  split
  · rfl
  · split
    · split
      · simp
      · dsimp only
        split <;> split <;> simp
    · rfl

@[simp] theorem heldMarks_freeRequest (t : Tag) (s : State) :
    heldMarks (freeRequest t s).stations = heldMarks s.stations := by
  unfold freeRequest
  split
  · rfl
  · simp

@[simp] theorem heldMarks_freePosted (p : PostedIndex) (cause : Option FaultCause) (s : State) :
    heldMarks (freePosted p cause s).stations = heldMarks s.stations := by
  unfold freePosted
  split
  · rfl
  · cases cause <;> simp

@[simp] theorem heldMarks_cancelEntry (t : Tag) (s : State) :
    heldMarks (cancelEntry t s).stations = heldMarks s.stations := by
  unfold cancelEntry
  split
  · rfl
  · split <;> simp

/-! ### Commands (R187) -/

theorem heldMarks_acceptDeferred (r : Request) (s : State) :
    heldMarks (acceptDeferred r s).stations = heldMarks s.stations := by
  unfold acceptDeferred
  split <;> simp

theorem heldMarks_acceptWrite (target : Target) (s : State) :
    heldMarks (acceptWrite target s).stations = heldMarks s.stations := by
  unfold acceptWrite
  split <;> simp

theorem heldMarks_acceptStaged (s : State) : heldMarks (acceptStaged s).stations = heldMarks s.stations := by
  unfold acceptStaged
  dsimp only
  split
  · exact heldMarks_acceptWrite _ s
  · exact heldMarks_acceptWrite _ s
  · exact heldMarks_acceptDeferred _ s
  · exact heldMarks_acceptDeferred _ s
  · split
    · exact heldMarks_acceptDeferred _ s
    · rfl
  · rfl

theorem heldMarks_submit (s : State) : heldMarks (submit s).stations = heldMarks s.stations := by
  unfold submit
  dsimp only
  split
  · rfl
  · exact heldMarks_acceptStaged (closeOpen s)

theorem heldMarks_cancel (s : State) : heldMarks (cancel s).stations = heldMarks s.stations := by
  unfold cancel
  split
  · rfl
  · split
    · rfl
    · split
      · rfl
      · split <;> simp

theorem stations_release (s : State) : (release s).stations = s.stations := by
  unfold release
  split
  · rfl
  · split
    · rfl
    · split <;> rfl

theorem stations_nextCompletion (s : State) : (nextCompletion s).stations = s.stations := by
  unfold nextCompletion
  split
  · rfl
  · dsimp only
    split
    · split <;> rfl
    · rfl

theorem heldMarks_backlogPollsDue (s : State) : heldMarks (backlogPollsDue s).stations = heldMarks s.stations := by
  funext i
  simp only [backlogPollsDue, heldMarks_tabulate]
  split
  · exact held_makePollDue (s.station i)
  · rfl

theorem heldMarks_nextAttention (s : State) : heldMarks (nextAttention s).stations = heldMarks s.stations := by
  unfold nextAttention
  split
  · rfl
  · exact heldMarks_backlogPollsDue _

theorem stations_nextFault (s : State) : (nextFault s).stations = s.stations := by
  unfold nextFault
  split <;> rfl

theorem stations_linkStart (s : State) : (linkStart s).stations = s.stations := by
  unfold linkStart
  split
  · split <;> rfl
  · rfl

/-- The end of the drain makes every station ABSENT and keeps its held field (R47). -/
theorem heldMarks_drain (s : State) : heldMarks (drain s).stations = heldMarks s.stations := by
  have hports : heldMarks (s.unfinishedPorts.foldl drainPort s).stations = heldMarks s.stations :=
    heldMarks_foldl (fun s t => heldMarks_completeRequest t .linkDown s) _ s
  have hposted (l : List PostedIndex) (u : State) : heldMarks (l.foldl drainPosted u).stations = heldMarks u.stations :=
    heldMarks_foldl (fun s p => heldMarks_freePosted p (some .linkDown) s) l u
  unfold drain
  simp only [heldMarks_tabulate, held_drained, station_held, stations_endHeldRead]
  rw [hposted]
  exact hports

theorem heldMarks_drainIfIdle (s : State) : heldMarks (drainIfIdle s).stations = heldMarks s.stations := by
  unfold drainIfIdle
  split
  · exact heldMarks_drain s
  · rfl

theorem heldMarks_linkStop (s : State) : heldMarks (linkStop s).stations = heldMarks s.stations := by
  unfold linkStop
  split
  · rfl
  · rfl
  · exact heldMarks_drainIfIdle _
  · exact heldMarks_drainIfIdle _

theorem heldMarks_withStation {f : StationId → State → State} {s : State}
    (h : ∀ i, heldMarks (f i s).stations = heldMarks s.stations) :
    heldMarks (withStation f s).stations = heldMarks s.stations := by
  unfold withStation
  split
  · rfl
  · exact h _

theorem heldMarks_flushMember (s : State) (x : EntryRef) :
    heldMarks (flushMember s x).stations = heldMarks s.stations := by
  cases x with
  | request t => exact heldMarks_cancelEntry t s
  | posted p =>
    unfold flushMember flushPosted
    dsimp only
    split
    · rfl
    · split <;> simp

theorem heldMarks_stationFlush (s : State) : heldMarks (stationFlush s).stations = heldMarks s.stations :=
  heldMarks_withStation fun i => heldMarks_foldl heldMarks_flushMember (s.station i).queue s

theorem heldMarks_stationRejoin (s : State) : heldMarks (stationRejoin s).stations = heldMarks s.stations := by
  refine heldMarks_withStation fun i => ?_
  split
  · split <;> simp
  · rfl

/-- Of the commands of R187, only STATION-HOLD, STATION-RESUME and CONTROLLER-RESET change a held field. -/
theorem heldMarks_commandEffect {c : HostCommand} (hhold : c ≠ .stationHold) (hresume : c ≠ .stationResume)
    (hreset : c ≠ .controllerReset) (s : State) :
    heldMarks (commandEffect c s).stations = heldMarks s.stations := by
  cases c with
  | submit => exact heldMarks_submit s
  | stageClear => rfl
  | cancel => exact heldMarks_cancel s
  | nextCompletion => exact congrArg heldMarks (stations_nextCompletion s)
  | release => exact congrArg heldMarks (stations_release s)
  | nextAttention => exact heldMarks_nextAttention s
  | nextFault => exact congrArg heldMarks (stations_nextFault s)
  | linkStart => exact congrArg heldMarks (stations_linkStart s)
  | linkStop => exact heldMarks_linkStop s
  | stationHold => exact absurd rfl hhold
  | stationResume => exact absurd rfl hresume
  | stationFlush => exact heldMarks_stationFlush s
  | stationRejoin => exact heldMarks_stationRejoin s
  | controllerReset => exact absurd rfl hreset

/-! ### The window unit (Chapter 8) -/

@[simp] theorem heldMarks_answer (t : Tag) (r : Request) (w : WindowPart) (status : Status) (address : Word)
    (s : State) : heldMarks (answer t r w status address s).stations = heldMarks s.stations := by
  unfold answer hit errorHit
  dsimp only
  split
  · split <;> simp
  · simp

theorem heldMarks_createWindow (offset : BitVec 4) (s : State) :
    heldMarks (createWindow offset s).stations = heldMarks s.stations := by
  unfold createWindow
  split <;> simp

theorem heldMarks_miss (offset : BitVec 4) (s : State) :
    heldMarks (miss offset s).stations = heldMarks s.stations := by
  unfold miss
  split
  · rfl
  · split
    · rfl
    · split
      · split <;> simp [heldMarks_createWindow]
      · exact heldMarks_createWindow offset s

theorem heldMarks_apertureRead (offset : BitVec 4) (s : State) :
    heldMarks (apertureRead offset s).stations = heldMarks s.stations := by
  unfold apertureRead
  dsimp only
  split
  · exact heldMarks_miss offset (closeOpen s)
  · split
    · rfl
    · split
      · rfl
      · split <;> simp

@[simp] theorem heldMarks_openEntryFor (address value : Word) (s : State) :
    heldMarks (openEntryFor address value s).stations = heldMarks s.stations := by
  unfold openEntryFor
  split <;> simp

theorem heldMarks_openOrHold (address value : Word) (s : State) :
    heldMarks (openOrHold address value s).stations = heldMarks s.stations := by
  unfold openOrHold
  dsimp only
  split <;> simp

theorem heldMarks_apertureWrite (offset : BitVec 4) (value : Word) (s : State) :
    heldMarks (apertureWrite offset value s).stations = heldMarks s.stations := by
  unfold apertureWrite
  dsimp only
  split
  · simp
  · split
    · exact heldMarks_openOrHold _ value s
    · split
      · exact heldMarks_openOrHold _ value s
      · split
        · rfl
        · exact heldMarks_openOrHold _ value s

@[simp] theorem heldMarks_answerHeldRead (s : State) :
    heldMarks (answerHeldRead s).stations = heldMarks s.stations := by
  unfold answerHeldRead
  split
  · split
    · split <;> simp
    · rfl
  · rfl
  · rfl

@[simp] theorem stations_dropHeldWrite (s : State) : (dropHeldWrite s).stations = s.stations := by
  unfold dropHeldWrite
  split
  · split <;> simp
  · rfl
  · rfl

@[simp] theorem heldMarks_giveHeldWriteSpace (s : State) :
    heldMarks (giveHeldWriteSpace s).stations = heldMarks s.stations := by
  unfold giveHeldWriteSpace
  split
  · split
    · split <;> simp
    · rfl
  · rfl
  · rfl

@[simp] theorem heldMarks_settleHeld (s : State) : heldMarks (settleHeld s).stations = heldMarks s.stations := by
  simp [settleHeld]

theorem stations_expireReadHold (s : State) : (expireReadHold s).stations = s.stations := by
  unfold expireReadHold
  split
  · simp
  · rfl
  · rfl

theorem stations_expireWriteHold (s : State) : (expireWriteHold s).stations = s.stations := by
  unfold expireWriteHold
  split
  · simp
  · rfl
  · rfl

/-! ### Register writes at the port (R183, R184) -/

theorem stations_stageDataWrite (v : Word) (s : State) : (stageDataWrite v s).stations = s.stations := by
  unfold stageDataWrite
  split <;> rfl

theorem stations_windowStationWrite (v : Word) (s : State) : (windowStationWrite v s).stations = s.stations := by
  unfold windowStationWrite
  split <;> rfl

theorem stations_timebaseWrite (v : Word) (s : State) : (timebaseWrite v s).stations = s.stations := by
  unfold timebaseWrite
  dsimp only
  split <;> rfl

theorem stations_stationSelectWrite (v : Word) (s : State) : (stationSelectWrite v s).stations = s.stations := by
  unfold stationSelectWrite
  split <;> rfl

theorem stations_plainWrite (location : BitVec 6) (v : Word) (s : State) :
    (plainWrite location v s).stations = s.stations := by
  unfold plainWrite
  split <;> simp [stations_stationSelectWrite]

/-- COMMAND is the one location whose write can change a held field. -/
theorem heldMarks_writeLocation {location : BitVec 6} (h : location ≠ 0x03#6) (v : Word) (s : State) :
    heldMarks (writeLocation location v s).stations = heldMarks s.stations := by
  unfold writeLocation
  split
  next hcommand => exact absurd (BitVec.eq_of_toNat_eq hcommand) h
  · exact congrArg heldMarks (stations_stageDataWrite v s)
  · rfl
  · rfl
  · rfl
  · exact congrArg heldMarks (stations_windowStationWrite v s)
  · rfl
  · rfl
  · exact congrArg heldMarks (stations_timebaseWrite v s)
  · split
    · exact heldMarks_apertureWrite _ v s
    · exact congrArg heldMarks (stations_plainWrite location v s)

/-- A REGISTER_WRITE is not a write of COMMAND, which has rows of its own. -/
theorem ne_command_of_wf {location : BitVec 6} {v : Word} (hwf : (Instr.registerWrite location v).wf = true) :
    location ≠ 0x03#6 := by
  rintro rfl
  simp [Instr.wf, ownRowLocations] at hwf

theorem heldMarks_commandWrite_of_none {code : Byte} (h : commandOf code = none) (s : State) :
    heldMarks (commandWrite code s).stations = heldMarks s.stations := by
  simp [commandWrite, h]

/-- What reaches the port is ignored, waits there, or takes effect (R183). -/
theorem heldMarks_onPort {a : HostAccess} {effect : State → State} {s : State}
    (h : heldMarks (effect s).stations = heldMarks s.stations) :
    heldMarks (onPort a effect s).stations = heldMarks s.stations := by
  unfold onPort
  split
  · rfl
  · split
    · rfl
    · exact h

theorem heldMarks_hostCommand {c : HostCommand} (hhold : c ≠ .stationHold) (hresume : c ≠ .stationResume)
    (hreset : c ≠ .controllerReset) (s : State) :
    heldMarks (hostCommand c s).stations = heldMarks s.stations :=
  heldMarks_onPort (heldMarks_commandEffect hhold hresume hreset _)

/-! ### Grants and the enumeration pass (R45, R90) -/

theorem stations_startRequest (t : Tag) (s : State) : (startRequest t s).stations = s.stations := by
  unfold startRequest
  split <;> rfl

theorem stations_startPosted (i : StationId) (p : PostedIndex) (s : State) :
    (startPosted i p s).stations = s.stations := by
  unfold startPosted
  split <;> rfl

theorem stations_startBroadcast (p : PostedIndex) (s : State) : (startBroadcast p s).stations = s.stations := by
  unfold startBroadcast
  split <;> rfl

theorem heldMarks_startCandidate (i : StationId) (c : Candidate) (s : State) :
    heldMarks (startCandidate i c s).stations = heldMarks s.stations := by
  cases c with
  | identify => rfl
  | abandon t => rfl
  | collect t => simp [startCandidate]
  | modifyWrite t => exact congrArg heldMarks (stations_startRequest t s)
  | poll => simp [startCandidate]
  | requestSegment t => exact congrArg heldMarks (stations_startRequest t s)
  | postedSegment p => exact congrArg heldMarks (stations_startPosted i p s)

theorem heldMarks_startMember (n : Nat) (s : State) :
    heldMarks (startMember n s).stations = heldMarks s.stations := by
  unfold startMember
  split
  · split
    · exact heldMarks_startCandidate _ _ s
    · rfl
  · split
    · exact congrArg heldMarks (stations_startBroadcast _ s)
    · rfl

theorem heldMarks_schedule (s : State) : heldMarks (schedule s).stations = heldMarks s.stations := by
  unfold schedule
  split
  · split
    · split <;> exact heldMarks_startMember _ _
    · exact heldMarks_startMember _ _
    · exact heldMarks_startMember _ _
    · rfl
  · rfl

theorem heldMarks_startIdentify (s : State) : heldMarks (startIdentify s).stations = heldMarks s.stations := by
  unfold startIdentify
  split
  · split <;> simp
  · rfl

/-! ### Replies to request and posted entries (R80) -/

@[simp] theorem heldMarks_segmentDone (t : Tag) (length : Nat) (words : List Word) (s : State) :
    heldMarks (segmentDone t length words s).stations = heldMarks s.stations := by
  unfold segmentDone
  split
  · rfl
  · dsimp only
    split
    · simp
    · split <;> simp

@[simp] theorem heldMarks_refuseRequest (t : Tag) (status : Status) (s : State) :
    heldMarks (refuseRequest t status s).stations = heldMarks s.stations := by
  simp [refuseRequest]

theorem heldMarks_requestBusy (t : Tag) (s : State) :
    heldMarks (requestBusy t s).stations = heldMarks s.stations := by
  unfold requestBusy
  split
  · rfl
  · dsimp only
    split
    · simp
    · split <;> simp

theorem heldMarks_requestNak (t : Tag) (reason : NakReason) (s : State) :
    heldMarks (requestNak t reason s).stations = heldMarks s.stations := by
  cases reason with
  | busy => exact heldMarks_requestBusy t s
  | reject => exact heldMarks_refuseRequest t .rejected s
  | fault => exact heldMarks_refuseRequest t .stationFault s

@[simp] theorem stations_enterParked (t : Tag) (segment : Segment) (s : State) :
    (enterParked t segment s).stations = s.stations := by
  simp [enterParked]

@[simp] theorem stations_collectAgain (t : Tag) (s : State) : (collectAgain t s).stations = s.stations := by
  simp [collectAgain]

theorem heldMarks_abandonAcked (t : Tag) (s : State) :
    heldMarks (abandonAcked t s).stations = heldMarks s.stations := by
  unfold abandonAcked
  split <;> simp

theorem heldMarks_modifyReadData (t : Tag) (old : Word) (s : State) :
    heldMarks (modifyReadData t old s).stations = heldMarks s.stations := by
  unfold modifyReadData
  split
  · rfl
  · split
    · dsimp only
      split
      · split <;> simp
      · simp
    · rfl
    · rfl

theorem heldMarks_modifyWriteAck (t : Tag) (s : State) :
    heldMarks (modifyWriteAck t s).stations = heldMarks s.stations := by
  simp [modifyWriteAck]

theorem heldMarks_postedBusy (p : PostedIndex) (s : State) :
    heldMarks (postedBusy p s).stations = heldMarks s.stations := by
  unfold postedBusy
  split
  · rfl
  · dsimp only
    split
    · simp
    · split <;> simp

theorem heldMarks_postedAck (p : PostedIndex) (length : Nat) (s : State) :
    heldMarks (postedAck p length s).stations = heldMarks s.stations := by
  unfold postedAck
  split
  · rfl
  · dsimp only
    split
    · simp
    · split <;> simp

theorem heldMarks_postedReply (p : PostedIndex) (length : Nat) (reply : Reply) (s : State) :
    heldMarks (postedReply p length reply s).stations = heldMarks s.stations := by
  unfold postedReply
  split
  · exact heldMarks_postedAck p length s
  · exact heldMarks_postedBusy p s
  · exact heldMarks_freePosted p _ s
  · exact heldMarks_freePosted p _ s
  all_goals rfl

theorem heldMarks_collectReply (t : Tag) (reply : Reply) (s : State) :
    heldMarks (collectReply t reply s).stations = heldMarks s.stations := by
  unfold collectReply
  split
  · split <;> simp
  · split <;> simp
  all_goals simp

theorem heldMarks_segmentReply (x : Exchange) (t : Tag) (write : Bool) (reply : Reply) (s : State) :
    heldMarks (segmentReply x t write reply s).stations = heldMarks s.stations := by
  cases reply with
  | data words => exact heldMarks_segmentDone t x.count words s
  | ack => exact heldMarks_segmentDone t x.count [] s
  | nak reason => exact heldMarks_requestNak t reason s
  | parked => exact congrArg heldMarks (stations_enterParked t _ s)
  | attn _ _ | quiet | identity _ => rfl

theorem heldMarks_requestReply (x : Exchange) (t : Tag) (reply : Reply) (s : State) :
    heldMarks (requestReply x t reply s).stations = heldMarks s.stations := by
  unfold requestReply
  split
  · exact heldMarks_segmentReply x t false reply s
  · exact heldMarks_segmentReply x t true reply s
  · split
    · exact heldMarks_modifyReadData t _ s
    · exact heldMarks_requestNak t _ s
    all_goals rfl
  · split
    · exact heldMarks_modifyWriteAck t s
    · exact heldMarks_requestNak t _ s
    all_goals rfl
  · exact heldMarks_collectReply t reply s
  · exact heldMarks_abandonAcked t s
  all_goals rfl

theorem heldMarks_ownerReply (x : Exchange) (t : Tag) (reply : Reply) (s : State) :
    heldMarks (ownerReply x t reply s).stations = heldMarks s.stations := by
  unfold ownerReply
  split
  · rfl
  · split
    · split
      · exact heldMarks_freeRequest t s
      · exact heldMarks_requestReply x t reply s
    · rfl

/-! ### Replies to a station record, and the LOST transition (R37, R38, R169) -/

theorem heldMarks_enterOnline (i : StationId) (f : Identity) (s : State) :
    heldMarks (enterOnline i f s).stations = heldMarks s.stations := by
  simp [enterOnline]

theorem heldMarks_pollAttn (i : StationId) (items : List AttnEntry) (more : Bool) (s : State) :
    heldMarks (pollAttn i items more s).stations = heldMarks s.stations := by
  simp [pollAttn, Station.pollEnded]

theorem heldMarks_pollQuiet (i : StationId) (s : State) :
    heldMarks (pollQuiet i s).stations = heldMarks s.stations := by
  simp [pollQuiet, Station.pollEnded]

theorem heldMarks_stationReply (i : StationId) (reply : Reply) (s : State) :
    heldMarks (stationReply i reply s).stations = heldMarks s.stations := by
  cases reply with
  | identity f => exact heldMarks_enterOnline i f s
  | attn items more => exact heldMarks_pollAttn i items more s
  | quiet => exact heldMarks_pollQuiet i s
  | data _ | ack | nak _ | parked => rfl

theorem heldMarks_flipToggle (x : Exchange) (s : State) :
    heldMarks (flipToggle x s).stations = heldMarks s.stations := by
  unfold flipToggle
  split
  · split <;> simp
  · rfl

theorem heldMarks_applyReply (x : Exchange) (reply : Reply) (s : State) :
    heldMarks (applyReply x reply s).stations = heldMarks s.stations := by
  rw [← heldMarks_flipToggle x s]
  unfold applyReply
  dsimp only
  split
  · exact heldMarks_ownerReply x _ reply _
  · exact heldMarks_postedReply _ x.count reply _
  · exact heldMarks_stationReply _ reply _

theorem heldMarks_loseOwner (owner : Owner) (s : State) :
    heldMarks (loseOwner owner s).stations = heldMarks s.stations := by
  cases owner with
  | request t =>
    unfold loseOwner
    dsimp only
    split
    · split <;> simp
    · rfl
  | posted p => exact heldMarks_freePosted p _ s
  | station i => rfl

theorem heldMarks_loseMember (s : State) (x : EntryRef) :
    heldMarks (loseMember s x).stations = heldMarks s.stations := by
  cases x with
  | request t => exact heldMarks_completeRequest t .stationLost s
  | posted p => exact heldMarks_freePosted p _ s

/-- The LOST transition keeps the held field of the lost station, and of every other (R38). -/
theorem heldMarks_lostTransition (i : StationId) (owner : Owner) (s : State) :
    heldMarks (lostTransition i owner s).stations = heldMarks s.stations := by
  unfold lostTransition
  simp [heldMarks_foldl heldMarks_loseMember, heldMarks_loseOwner]

theorem heldMarks_applyFailed (x : Exchange) (s : State) :
    heldMarks (applyFailed x s).stations = heldMarks s.stations := by
  unfold applyFailed
  split
  · exact heldMarks_lostTransition _ x.owner s
  · rfl

theorem heldMarks_applySent (x : Exchange) (s : State) :
    heldMarks (applySent x s).stations = heldMarks s.stations := by
  unfold applySent
  split <;> simp

/-! ### The events on the pair -/

theorem heldMarks_endExchange (x : Exchange) {outcome : State → State}
    (h : ∀ s, heldMarks (outcome s).stations = heldMarks s.stations) (s : State) :
    heldMarks (endExchange x outcome s).stations = heldMarks s.stations := by
  simp [endExchange, heldMarks_drainIfIdle, h]

theorem heldMarks_attemptFailed (x : Exchange) (s : State) :
    heldMarks (attemptFailed x s).stations = heldMarks s.stations := by
  unfold attemptFailed
  split
  · rfl
  · exact heldMarks_endExchange x (heldMarks_applyFailed x) s

theorem stations_beginFrame (s : State) : (beginFrame s).stations = s.stations := by
  unfold beginFrame
  split
  · split <;> rfl
  · rfl

theorem stations_frameSent (s : State) : (frameSent s).stations = s.stations := by
  unfold frameSent
  split
  · split
    · split <;> rfl
    all_goals rfl
  · rfl

theorem stations_broadcastFrameSent (s : State) : (broadcastFrameSent s).stations = s.stations := by
  unfold broadcastFrameSent
  split
  · split
    · split <;> rfl
    all_goals rfl
  · rfl

theorem stations_receptionBegin (s : State) : (receptionBegin s).stations = s.stations := by
  unfold receptionBegin
  split
  · split <;> rfl
  · rfl

theorem heldMarks_receptionEnd (rc : Reception) (s : State) :
    heldMarks (receptionEnd rc s).stations = heldMarks s.stations := by
  unfold receptionEnd
  split
  next x _ =>
    split
    · split
      next reply _ => exact heldMarks_endExchange x (heldMarks_applyReply x reply) s
      next => exact heldMarks_attemptFailed x s
    all_goals rfl
  next => rfl

theorem heldMarks_receptionOverrun (s : State) :
    heldMarks (receptionOverrun s).stations = heldMarks s.stations := by
  unfold receptionOverrun
  split
  next x _ =>
    split
    · exact heldMarks_attemptFailed x s
    all_goals rfl
  next => rfl

theorem heldMarks_replyWindowClose (s : State) :
    heldMarks (replyWindowClose s).stations = heldMarks s.stations := by
  unfold replyWindowClose
  split
  next x _ =>
    split
    · exact heldMarks_attemptFailed x s
    all_goals rfl
  next => rfl

theorem heldMarks_broadcastGapEnd (s : State) :
    heldMarks (broadcastGapEnd s).stations = heldMarks s.stations := by
  unfold broadcastGapEnd
  split
  next x _ =>
    split
    · exact heldMarks_endExchange x (heldMarks_applySent x) s
    all_goals rfl
  next => rfl

/-! ### Timer expiries -/

theorem heldMarks_discardExpired (t : Tag) (s : State) :
    heldMarks (discardExpired t s).stations = heldMarks s.stations := by
  unfold discardExpired
  split
  · rfl
  · split
    · split <;> simp
    · rfl

/-! ### Every row of the table but the four that R39 and the resets name -/

theorem heldMarks_of_next {s u t : State} (h : (Host.Outcome.next u : Host.Outcome State Fault Refusal) = .next t)
    (hkept : heldMarks u.stations = heldMarks s.stations) : heldMarks t.stations = heldMarks s.stations := by
  cases h
  exact hkept

theorem heldMarks_of_exec {c : Instr} {s t : State} (h : exec c s = .next t) (hwf : c.wf = true)
    (hhold : c ≠ .stationHold) (hresume : c ≠ .stationResume) (hpin : c ≠ .pinReset)
    (hreset : c ≠ .controllerReset) : heldMarks t.stations = heldMarks s.stations := by
  cases c with
  | submit | stageClear | cancel | nextCompletion | release | nextAttention | nextFault | linkStart | linkStop
  | stationFlush | stationRejoin =>
    exact heldMarks_of_next h (heldMarks_hostCommand (by decide) (by decide) (by decide) s)
  | stationHold => exact absurd rfl hhold
  | stationResume => exact absurd rfl hresume
  | pinReset => exact absurd rfl hpin
  | controllerReset => exact absurd rfl hreset
  | badCommand code =>
    have hnone : commandOf code = none := Option.isNone_iff_eq_none.mp hwf
    exact heldMarks_of_next h (heldMarks_onPort (heldMarks_commandWrite_of_none hnone s))
  | stageDataWrite v => exact heldMarks_of_next h (heldMarks_onPort (congrArg heldMarks (stations_stageDataWrite v s)))
  | dataPortRead | interruptCauseWrite _ | interruptEnableWrite _ | windowStatusWrite _ | pageBaseWrite _
  | prefetchWrite _ => exact heldMarks_of_next h (heldMarks_onPort rfl)
  | windowStationWrite v =>
    exact heldMarks_of_next h (heldMarks_onPort (congrArg heldMarks (stations_windowStationWrite v s)))
  | timebaseWrite v => exact heldMarks_of_next h (heldMarks_onPort (congrArg heldMarks (stations_timebaseWrite v s)))
  | registerWrite location v =>
    exact heldMarks_of_next h (heldMarks_onPort (heldMarks_writeLocation (ne_command_of_wf hwf) v s))
  | apertureRead offset => exact heldMarks_of_next h (heldMarks_onPort (heldMarks_apertureRead offset s))
  | apertureWrite offset v => exact heldMarks_of_next h (heldMarks_onPort (heldMarks_apertureWrite offset v s))
  | resetRelease | holdAsserted | holdReleased | discardedFrame _ => exact heldMarks_of_next h rfl
  | grant => exact heldMarks_of_next h (heldMarks_schedule s)
  | enumerationIdentifyStart => exact heldMarks_of_next h (heldMarks_startIdentify s)
  | frameBegin | pairActiveTimeout => exact heldMarks_of_next h (congrArg heldMarks (stations_beginFrame s))
  | frameSent => exact heldMarks_of_next h (congrArg heldMarks (stations_frameSent s))
  | receptionBegin => exact heldMarks_of_next h (congrArg heldMarks (stations_receptionBegin s))
  | receptionEnd rc => exact heldMarks_of_next h (heldMarks_receptionEnd rc s)
  | receptionOverrun => exact heldMarks_of_next h (heldMarks_receptionOverrun s)
  | replyWindowClose => exact heldMarks_of_next h (heldMarks_replyWindowClose s)
  | broadcastGapEnd => exact heldMarks_of_next h (heldMarks_broadcastGapEnd s)
  | busyBackoffExpiry entry =>
    cases entry with
    | request t => exact heldMarks_of_next h (congrArg heldMarks (stations_updateRequest s t _))
    | posted p => exact heldMarks_of_next h (congrArg heldMarks (stations_updatePosted s p _))
  | collectTimerExpiry t | parkTimerExpiry t =>
    exact heldMarks_of_next h (congrArg heldMarks (stations_updateRequest s t _))
  | pollTimerExpiry i => exact heldMarks_of_next h (heldMarks_set (held_pollExpired (s.station i)))
  | readHoldExpiry => exact heldMarks_of_next h (congrArg heldMarks (stations_expireReadHold s))
  | writeHoldExpiry => exact heldMarks_of_next h (congrArg heldMarks (stations_expireWriteHold s))
  | discardTimerExpiry t => exact heldMarks_of_next h (heldMarks_discardExpired t s)
  | heldReadAnswered => exact heldMarks_of_next h (heldMarks_answerHeldRead s)
  | heldWriteSpace => exact heldMarks_of_next h (heldMarks_giveHeldWriteSpace s)
  | heldWriteStationLost => exact heldMarks_of_next h (congrArg heldMarks (stations_dropHeldWrite s))
  | drainEnd => exact heldMarks_of_next h (heldMarks_drainIfIdle s)
  | broadcastFrameSent => exact heldMarks_of_next h (congrArg heldMarks (stations_broadcastFrameSent s))

/-! ### STATION-HOLD and STATION-RESUME by the station PARAMETER names (R33, R39) -/

theorem withStation_of_address {f : StationId → State → State} {s : State} {i : StationId}
    (h : stationAddress i = s.parameter.toNat) : withStation f s = f i s := by
  simp [withStation, stationAt_eq_some.mpr h]

theorem withStation_of_bad {f : StationId → State → State} {s : State}
    (h : s.parameter.toNat = 0 ∨ 15 ≤ s.parameter.toNat) : withStation f s = s.setResult .badStation := by
  simp [withStation, stationAt_eq_none.mpr h]

theorem exec_stationHold_of_portReady {s : State} (h : PortReady s) :
    exec .stationHold s = .next (stationHold (withCode s 0x40#8)) :=
  congrArg Host.Outcome.next (hostCommand_of_portReady .stationHold h)

theorem exec_stationResume_of_portReady {s : State} (h : PortReady s) :
    exec .stationResume s = .next (stationResume (withCode s 0x41#8)) :=
  congrArg Host.Outcome.next (hostCommand_of_portReady .stationResume h)

/-! ### The resets (R51, R192) -/

theorem exec_controllerReset_of_portReady {s : State} (h : PortReady s) :
    exec .controllerReset s = .next (controllerReset (withCode s 0x7E#8)) :=
  congrArg Host.Outcome.next (hostCommand_of_portReady .controllerReset h)

/-- Both resets give the station records their reset values. -/
theorem stations_of_reset {s t : State}
    (h : exec .pinReset s = .next t ∨ (PortReady s ∧ exec .controllerReset s = .next t)) :
    t.stations = State.reset.stations := by
  rcases h with hpin | ⟨hready, hreset⟩
  · cases hpin
    rfl
  · rw [exec_controllerReset_of_portReady hready] at hreset
    cases hreset
    rfl

/-! ### The obligation -/

/-- Settles O24: the two commands and the resets by what each writes, every other row by `heldMarks_of_exec`. -/
theorem heldFieldFollowsHoldAndResume : Obligations.HeldFieldFollowsHoldAndResume := by
  refine ⟨fun s hready => ?commands, fun s t h i => ?resets, fun c s t h hwf hhold hresume hpin hreset i => ?others⟩
  case commands =>
    rw [exec_stationHold_of_portReady hready, exec_stationResume_of_portReady hready]
    exact ⟨fun i hi => ⟨congrArg Host.Outcome.next (withStation_of_address hi),
        congrArg Host.Outcome.next (withStation_of_address hi)⟩,
      fun hbad => ⟨congrArg Host.Outcome.next (withStation_of_bad hbad),
        congrArg Host.Outcome.next (withStation_of_bad hbad)⟩⟩
  case resets => rw [station_held, stations_of_reset h, heldMarks_reset]
  case others => rw [station_held, station_held, heldMarks_of_exec h hwf hhold hresume hpin hreset]

end Sys2Proof.Proofs
end

section
/-! PROOFS. The host register window: the identification registers ID and REVISION (R190). -/

namespace Sys2Proof.Proofs

open Sys2Proof.Machine Sys2Proof.Claims

/-! ### What the identification registers read -/

theorem readLocation_id (s : State) : s.readLocation 0x00#6 = 0x3120#16 := rfl

theorem readLocation_revision (s : State) : s.readLocation 0x01#6 = 0x0003#16 := rfl

/-! ### A write to them -/

/-- A ready port carries a write of a plain location out at once (R183, R184). -/
theorem exec_registerWrite_of_portReady (location : BitVec 6) (v : Word) {s : State} (h : PortReady s) :
    exec (.registerWrite location v) s = .next (writeLocation location v s) := by
  obtain ⟨hreset, haccess, hwaiting⟩ := h
  exact congrArg Host.Outcome.next (onPort_ready hreset haccess hwaiting)

theorem writeLocation_id (v : Word) (s : State) : writeLocation 0x00#6 v s = s := rfl

theorem writeLocation_revision (v : Word) (s : State) : writeLocation 0x01#6 v s = s := rfl

/-! ### The obligation -/

/-- Settles O6: no field of the state takes part in what ID and REVISION read, so no reset can change it, and a ready
port's write to either has no effect. -/
theorem identificationNeverChanges : Obligations.IdentificationNeverChanges := by
  refine ⟨fun s => ⟨readLocation_id s, readLocation_revision s⟩, fun s v hready => ⟨?writeId, ?writeRevision⟩,
    fun s t _ => ⟨?resetsKeepId, ?resetsKeepRevision⟩⟩
  case writeId => rw [exec_registerWrite_of_portReady _ v hready, writeLocation_id]
  case writeRevision => rw [exec_registerWrite_of_portReady _ v hready, writeLocation_revision]
  case resetsKeepId => rw [readLocation_id, readLocation_id]
  case resetsKeepRevision => rw [readLocation_revision, readLocation_revision]

end Sys2Proof.Proofs
end

section
/-! PROOFS. Completion and freeing as whole states: one record update for each shared operation, so that every field of
its result is read off. -/

namespace Sys2Proof.Proofs

open Sys2Proof.Machine Sys2Proof.Claims

/-! ### Request entries -/

/-- The completion of an unfinished entry, as one update of the state (R20, R150 to R152). -/
theorem completeRequest_eq_completed {s : State} {u : Tag} {r : Request} (status : Status)
    (hr : s.request u = some r) (hu : r.unfinished = true) : completeRequest u status s = completed s u r status := by
  unfold completeRequest completed completedRow completedList completedCauses
  simp only [hr, hu, if_true]
  cases horigin : r.origin with
  | port => rfl
  | window w =>
    dsimp only
    cases hheld : w.held <;> cases hstale : w.stale <;>
      simp [State.dequeue, State.updateStation, State.putRequest, State.latchWindow, State.station,
        Settings.discardTicks]

/-- The completion of an entry whose row has just been changed: the changed row is the one that completes. -/
theorem completeRequest_putRequest {s : State} {u : Tag} {r : Request} (status : Status) (hu : r.unfinished = true) :
    completeRequest u status (s.putRequest u (some r)) = completed s u r status := by
  rw [completeRequest_eq_completed (r := r) status (by simp) hu]
  simp [completed, completedList, completedCauses, State.putRequest, State.station]

/-- The state after a request entry is freed: its row FREE, its station's queue without it (R15, R152). -/
def vacated (s : State) (u : Tag) (r : Request) : State :=
  { s with
    requests := s.requests.set u none
    stations :=
      s.stations.set r.station
        { s.station r.station with queue := (s.station r.station).queue.erase (.request u) } }

theorem freeRequest_eq_vacated {s : State} {u : Tag} {r : Request} (hr : s.request u = some r) :
    freeRequest u s = vacated s u r := by
  simp only [freeRequest, hr]
  rfl

theorem freeRequest_of_free {s : State} {u : Tag} (hr : s.request u = none) : freeRequest u s = s := by
  simp [freeRequest, hr]

/-! ### Posted entries -/

/-- The station records without a posted entry that has left the queue of its target. -/
def stationsWithout (s : State) (target : Target) (p : PostedIndex) : Vector Station 14 :=
  match target with
  | .station i => s.stations.set i { s.station i with queue := (s.station i).queue.erase (.posted p) }
  | .broadcast => s.stations

/-- The broadcast queue without a posted entry that has left the queue of its target. -/
def broadcastsWithout (s : State) (target : Target) (p : PostedIndex) : List PostedIndex :=
  match target with
  | .station _ => s.broadcastQueue
  | .broadcast => s.broadcastQueue.erase p

theorem unqueued_eq (s : State) (target : Target) (p : PostedIndex) :
    unqueued s target p =
      { s with stations := stationsWithout s target p, broadcastQueue := broadcastsWithout s target p } := by
  cases target <;> rfl

/-- The fault list after one record (R176). -/
theorem recorded_one (faults : List FaultRecord) (f : FaultRecord) :
    recorded faults [f] = if faults.length < 8 then faults ++ [f] else faults := by
  unfold recorded
  split
  next h => rw [List.take_of_length_le (by simp; omega)]
  next h => simp [Nat.sub_eq_zero_of_le (Nat.le_of_not_lt h)]

theorem dropsCounted_one (faults : List FaultRecord) (f : FaultRecord) (dropped : Nat) :
    dropsCounted faults [f] dropped = if faults.length < 8 then min 255 dropped else min 255 (dropped + 1) := by
  unfold dropsCounted
  simp only [List.length_cons, List.length_nil]
  split
  · congr 1; omega
  · congr 1; omega

/-- A fault record made in a state that keeps its fault list (R176). -/
theorem appendFault_eq {s : State} (hd : s.dropped ≤ 255) (f : FaultRecord) :
    s.appendFault f =
      { s with faults := recorded s.faults [f], dropped := dropsCounted s.faults [f] s.dropped } := by
  rw [recorded_one, dropsCounted_one]
  unfold State.appendFault Config.faultRecords Config.maxDropped
  split
  · rw [Nat.min_eq_right hd]
  · rfl

theorem faultRecord_eq (e : Posted) (cause : FaultCause) : e.faultRecord cause = postedRecord e cause := by
  unfold Posted.faultRecord postedRecord Posted.nextAddress Mode.advance
  cases e.mode <;> rfl

theorem dequeuePosted_putPosted (s : State) (target : Target) (p : PostedIndex) :
    (s.dequeuePosted target p).putPosted p none =
      { s with
        posted := s.posted.set p none
        stations := stationsWithout s target p
        broadcastQueue := broadcastsWithout s target p } := by
  cases target <;> rfl

/-- A posted entry freed without a record (R103, R111). -/
theorem freePosted_none_eq {s : State} {p : PostedIndex} {e : Posted} (he : s.postedEntry p = some e) :
    freePosted p none s = freed s p e [] := by
  simp only [freePosted, he, dequeuePosted_putPosted, freed, unqueued_eq, List.map_nil, if_true]
  simp [recorded, stationsWithout, broadcastsWithout, State.station]

/-- A posted entry freed with a record (R105), where the dropped count is in its range. -/
theorem freePosted_some_eq {s : State} {p : PostedIndex} {e : Posted} (hd : s.dropped ≤ 255)
    (he : s.postedEntry p = some e) (cause : FaultCause) : freePosted p (some cause) s = freed s p e [cause] := by
  simp only [freePosted, he, dequeuePosted_putPosted, freed, unqueued_eq, List.map_cons, List.map_nil]
  rw [appendFault_eq, faultRecord_eq]
  · simp [stationsWithout, broadcastsWithout, State.station]
  · exact hd

theorem freePosted_of_free {s : State} {p : PostedIndex} (he : s.postedEntry p = none) (cause : Option FaultCause) :
    freePosted p cause s = s := by
  simp [freePosted, he]

end Sys2Proof.Proofs
end

section
/-! PROOFS. What a step is made of: the elementary effects, one constructor for each shared operation, each a record
update with the conditions under which the model performs it. The invariants are proved effect by effect, and each
meaning is shown once to be a chain of effects. -/

namespace Sys2Proof.Proofs

open Sys2Proof.Machine Sys2Proof.Claims

/-! ### Changes of one row -/

/-- A request entry of origin WINDOW (R2). -/
def ofWindow (r : Request) : Bool :=
  match r.origin with
  | .window _ => true
  | .port => false

/-- A request entry whose work is not begun or waits for its backoff: QUEUED or WAITING. -/
def Idles (r : Request) : Prop := r.state = .queued ∨ ∃ n, r.state = .waiting n

/-- Two rows of one entry: its station, its place in the order of acceptance and its origin stay. -/
structure SameEntry (r r' : Request) : Prop where
  station : r'.station = r.station
  order : r'.order = r.order
  window : ofWindow r' = ofWindow r

/-- A change of a row that leaves its work as it stands. -/
structure SameWork (r r' : Request) : Prop extends SameEntry r r' where
  unfinished : r'.unfinished = r.unfinished
  count : r'.count = r.count
  wordsDone : r'.wordsDone = r.wordsDone
  busy : r'.inProgress = true → r.inProgress = true
  carries : ∀ kind, r.carries kind = true → r'.carries kind = true
  active : r'.state = .active → r.state = .active
  counts : r.countsKept = true → r'.countsKept = true

/-- A row of the Request Table before and after a change that begins, advances and ends no work: a finished entry may be
freed. -/
inductive RowKept : Option Request → Option Request → Prop
  | free : RowKept none none
  | kept {r r' : Request} (h : SameWork r r') : RowKept (some r) (some r')
  | gone {r : Request} (h : r.unfinished = false) : RowKept (some r) none

/-- A change of a posted row that leaves its words and its work as they stand; it opens no entry. -/
structure SamePosted (e e' : Posted) : Prop where
  target : e'.target = e.target
  order : e'.order = e.order
  data : e'.data = e.data
  wordsDone : e'.wordsDone = e.wordsDone
  opened : e'.state = .opened → e.state = .opened
  active : e'.state = .active ↔ e.state = .active
  busy : e'.inProgress = true → e.inProgress = true

/-- A row of the Posted Store before and after such a change. -/
inductive PostedKept : Option Posted → Option Posted → Prop
  | free : PostedKept none none
  | kept {e e' : Posted} (h : SamePosted e e') : PostedKept (some e) (some e')

/-- The poll bookkeeping of one station record (R163). -/
def PollKept (st : Station) : Prop :=
  (st.attentionCapable = false → st.pollDue = false ∧ st.pollTimer = none) ∧ (st.pollDue = true → st.pollTimer = none)

/-- A change of a station record that keeps its state, its queue and its poll bookkeeping in order. -/
structure SameStanding (st st' : Station) : Prop where
  state : st'.state = st.state
  queue : st'.queue = st.queue
  poll : PollKept st → PollKept st'

/-- An exchange that goes on: its frame is the same, its attempt stays in its limit and its phase is one of its kind. -/
structure Continues (x x' : Exchange) : Prop where
  kind : x'.kind = x.kind
  owner : x'.owner = x.owner
  destination : x'.destination = x.destination
  frame : x'.frame = x.frame
  limit : x'.limit = x.limit
  attempt : x.attempt ≤ x.limit → x'.attempt ≤ x.limit
  rises : x.attempt ≤ x'.attempt
  phase : x.phaseOfKind = true → x'.phaseOfKind = true

/-! ### Queues with one entry more -/

/-- The station records with a posted entry at the tail of the queue of its target. -/
def stationsWith (s : State) (target : Target) (p : PostedIndex) : Vector Station 14 :=
  match target with
  | .station i => s.stations.set i { s.station i with queue := (s.station i).queue ++ [.posted p] }
  | .broadcast => s.stations

/-- The broadcast queue with a posted entry at its tail, if that is its queue. -/
def broadcastsWith (s : State) (target : Target) (p : PostedIndex) : List PostedIndex :=
  match target with
  | .station _ => s.broadcastQueue
  | .broadcast => s.broadcastQueue ++ [p]

/-- The state after a posted entry is freed, with the fault list and the dropped count as they stand then (R105). -/
def retired (s : State) (p : PostedIndex) (e : Posted) (fs : List FaultRecord) (d : Nat) : State :=
  { s with
    posted := s.posted.set p none, stations := stationsWithout s e.target p
    broadcastQueue := broadcastsWithout s e.target p, faults := fs, dropped := d }

/-- The state after a posted entry is accepted (R101). -/
def joined (s : State) (p : PostedIndex) (e : Posted) : State :=
  { s with
    posted := s.posted.set p (some { e with order := s.nextOrder }), stations := stationsWith s e.target p
    broadcastQueue := broadcastsWith s e.target p, nextOrder := s.nextOrder + 1 }

theorem acceptPosted_eq_joined (p : PostedIndex) (e : Posted) (s : State) : acceptPosted p e s = joined s p e := by
  cases e with
  | mk origin target => cases target <;> rfl

/-! ### The elementary effects -/

/-- One elementary effect. `B` is what makes the owner of an ended exchange stand at the head of its queue, `W` what makes
its segment fit in its count; an effect outside the end of an exchange needs neither. `Q` is what leaves room for a
window entry. Work in progress ends or moves on
only while the engine is IDLE. -/
inductive Effect (B W Q : Prop) : State → State → Prop
  /-- Registers that no invariant but that of the staging data list reads. -/
  | registers (s : State) (command : Byte) (result : ResultCode) (parameter : Word) (submitTag : BitVec 4)
      (staging : Staging) (dataPosition : Nat) (stationSelect : StationId) (latched : LatchedCauses) (enables : Causes)
      (access : Option HeldAccess) (dataOut : Option Word) (windowStatus : WindowStatus) (holdInput resetInput : Bool)
      (hstaging : StagingKept s → staging.data.length ≤ Config.stagingWords) :
      Effect B W Q s
        { s with
          command := command, result := result, parameter := parameter, submitTag := submitTag, staging := staging
          dataPosition := dataPosition, stationSelect := stationSelect, latched := latched, enables := enables
          access := access, dataOut := dataOut, windowStatus := windowStatus, holdInput := holdInput
          resetInput := resetInput }
  | settings (s : State) (g : Settings) (h : SettingsInRange s.settings → SettingsInRange g) :
      Effect B W Q s { s with settings := g }
  | stations (s : State) (v : Vector Station 14) (h : ∀ i : StationId, SameStanding (s.station i) v[i]) :
      Effect B W Q s { s with stations := v }
  | attention (s : State) (q : List AttentionItem) (h : AttentionKept s → AttentionKept { s with attention := q }) :
      Effect B W Q s { s with attention := q }
  | faults (s : State) (fs : List FaultRecord) (d : Nat)
      (h : FaultsKept s → FaultsKept { s with faults := fs, dropped := d }) :
      Effect B W Q s { s with faults := fs, dropped := d }
  | rows (s : State) (v : Vector (Option Request) 16) (l : List Tag) (h : ∀ u : Tag, RowKept (s.request u) v[u])
      (hlist : CompletionsExact s → CompletionsExact { s with requests := v, completionList := l }) :
      Effect B W Q s { s with requests := v, completionList := l }
  /-- An unfinished entry completes, its row changed to `r'` first. -/
  | finish (s : State) (u : Tag) (r r' : Request) (status : Status) (hr : s.request u = some r)
      (hunfinished : r.unfinished = true) (h : SameEntry r r') (hidle : Idles r ∨ s.exchange = none)
      (hcounts : W → r.countsKept = true → { r' with state := .done status }.countsKept = true) :
      Effect B W Q s (completed s u r' status)
  /-- A window entry is freed. -/
  | free (s : State) (u : Tag) (r : Request) (hr : s.request u = some r) (hwindow : ofWindow r = true)
      (hidle : r.unfinished = false ∨ s.exchange = none) : Effect B W Q s (vacated s u r)
  | accept (s : State) (u : Tag) (r : Request) (hfree : s.request u = none) (hqueued : r.state = .queued)
      (hcounts : r.countsKept = true)
      (hquota : Q → ofWindow r = true → s.windowEntries < Config.windowQuota)
      (honline : s.online r.station = true) : Effect B W Q s (acceptRequest u r s)
  /-- The work of an entry moves on at the end of its exchange. -/
  | work (s : State) (u : Tag) (r r' : Request) (hr : s.request u = some r) (hunfinished : r.unfinished = true)
      (hunfinished' : r'.unfinished = true) (h : SameEntry r r') (hactive : r'.state ≠ .active)
      (hidle : s.exchange = none) (hbusy : B → r.inProgress = true)
      (hcounts : W → r.countsKept = true → r'.countsKept = true) : Effect B W Q s (s.putRequest u (some r'))
  | posteds (s : State) (v : Vector (Option Posted) 16) (h : ∀ p : PostedIndex, PostedKept (s.postedEntry p) v[p]) :
      Effect B W Q s { s with posted := v }
  /-- An aperture word joins the OPEN entry. -/
  | append (s : State) (p : PostedIndex) (e : Posted) (value : Word) (he : s.postedEntry p = some e)
      (hopen : e.state = .opened) (hroom : e.count < Config.entryWords) (hpool : 1 ≤ s.poolFree) :
      Effect B W Q s (s.putPosted p (some (e.append value)))
  /-- The work of a posted entry moves on at the end of its exchange. -/
  | workPosted (s : State) (p : PostedIndex) (e e' : Posted) (he : s.postedEntry p = some e)
      (htarget : e'.target = e.target) (horder : e'.order = e.order) (hdata : e'.data = e.data)
      (hopened : e'.state ≠ .opened) (hactive : e'.state ≠ .active) (hidle : s.exchange = none)
      (hbusy : B → e.inProgress = true) (hcounts : W → e.countsKept = true → e'.countsKept = true) :
      Effect B W Q s (s.putPosted p (some e'))
  /-- A posted entry is freed. -/
  | retire (s : State) (p : PostedIndex) (e : Posted) (fs : List FaultRecord) (d : Nat) (he : s.postedEntry p = some e)
      (hidle : e.state ≠ .active ∨ s.exchange = none)
      (h : FaultsKept s → FaultsKept { s with faults := fs, dropped := d }) :
      Effect B W Q s (retired s p e fs d)
  | acceptPosted (s : State) (p : PostedIndex) (e : Posted) (hfree : s.postedEntry p = none)
      (hstate : e.state = .queued ∨
        e.state = .opened ∧ ∀ q f, s.postedEntry q = some f → f.state ≠ .opened)
      (hcounts : e.countsKept = true) (hpool : e.count ≤ s.poolFree)
      (honline : ∀ i, e.target = .station i → s.online i = true) :
      Effect B W Q s (joined s p e)
  /-- The exchange in flight goes on. -/
  | continues (s : State) (x x' : Exchange) (hx : s.exchange = some x) (h : Continues x x') :
      Effect B W Q s { s with exchange := some x' }

/-- A chain of elementary effects. -/
abbrev Effects (B W Q : Prop) : State → State → Prop := Relation.ReflTransGen (Effect B W Q)

variable {B W Q : Prop} {s t : State}

theorem Effects.keeps {P : State → Prop} (hstep : ∀ s t, Effect B W Q s t → P s → P t) (h : Effects B W Q s t) (hs : P s) :
    P t := by
  induction h with
  | refl => exact hs
  | tail _ he ih => exact hstep _ _ he ih

theorem Effects.one (h : Effect B W Q s t) : Effects B W Q s t := .single h

theorem Effects.foldl {α : Type} {f : State → α → State} (h : ∀ s x, Effects B W Q s (f s x)) (l : List α) (s : State) :
    Effects B W Q s (l.foldl f s) := by
  induction l generalizing s with
  | nil => exact .refl
  | cons x l ih => exact (h s x).trans (ih (f s x))

/-! ### What no effect changes -/

/-- The fields that only the reports, the port, the timebase, the scheduler and the link itself move. -/
structure SameFrame (s t : State) : Prop where
  pending : t.pending = s.pending
  portWaiting : t.portWaiting = s.portWaiting
  completion : t.completion = s.completion
  attentionRecord : t.attentionRecord = s.attentionRecord
  faultRegisters : t.faultRegisters = s.faultRegisters
  link : t.link = s.link
  pass : t.pass = s.pass
  highPosition : t.highPosition = s.highPosition
  lowPosition : t.lowPosition = s.lowPosition
  starvation : t.starvation = s.starvation

theorem SameFrame.refl (s : State) : SameFrame s s := ⟨rfl, rfl, rfl, rfl, rfl, rfl, rfl, rfl, rfl, rfl⟩

theorem SameFrame.trans {u : State} (h : SameFrame s t) (k : SameFrame t u) : SameFrame s u where
  pending := k.pending.trans h.pending
  portWaiting := k.portWaiting.trans h.portWaiting
  completion := k.completion.trans h.completion
  attentionRecord := k.attentionRecord.trans h.attentionRecord
  faultRegisters := k.faultRegisters.trans h.faultRegisters
  link := k.link.trans h.link
  pass := k.pass.trans h.pass
  highPosition := k.highPosition.trans h.highPosition
  lowPosition := k.lowPosition.trans h.lowPosition
  starvation := k.starvation.trans h.starvation

theorem Effect.frame (h : Effect B W Q s t) : SameFrame s t := by
  cases h <;> exact ⟨rfl, rfl, rfl, rfl, rfl, rfl, rfl, rfl, rfl, rfl⟩

theorem Effects.frame (h : Effects B W Q s t) : SameFrame s t :=
  h.keeps (P := SameFrame s) (fun _ _ he hs => hs.trans he.frame) (SameFrame.refl s)

/-- No effect begins or ends an exchange. -/
theorem Effect.exchange (h : Effect B W Q s t) :
    t.exchange = s.exchange ∨ ∃ x x', s.exchange = some x ∧ t.exchange = some x' ∧ Continues x x' := by
  cases h with
  | continues x x' hx h => exact .inr ⟨x, x', hx, rfl, h⟩
  | _ => exact .inl rfl

theorem Effect.exchange_none (h : Effect B W Q s t) (hs : s.exchange = none) : t.exchange = none := by
  rcases h.exchange with h | ⟨x, x', hx, -⟩
  · rw [h, hs]
  · rw [hs] at hx; cases hx

theorem Effects.exchange_none (h : Effects B W Q s t) (hs : s.exchange = none) : t.exchange = none :=
  h.keeps (P := fun s => s.exchange = none) (fun _ _ he => he.exchange_none) hs

end Sys2Proof.Proofs
end

section
/-! PROOFS. What every elementary effect keeps, invariant by invariant: the lists, the capacities and the ranges. -/

namespace Sys2Proof.Proofs

open Sys2Proof.Machine Sys2Proof.Claims

variable {B W Q : Prop} {s t : State}

/-! ### Rows of the tables after an update -/

theorem vector_set_get {α : Type} {n : Nat} (v : Vector α n) (i j : Fin n) (x : α) :
    (v.set i x)[j] = if i = j then x else v[j] := by
  simp [Vector.getElem_set, Fin.ext_iff]

theorem request_completed (s : State) (u w : Tag) (r : Request) (status : Status) :
    (completed s u r status).request w = if u = w then completedRow s.settings r status else s.request w :=
  vector_set_get s.requests u w _

theorem request_vacated (s : State) (u w : Tag) (r : Request) :
    (vacated s u r).request w = if u = w then none else s.request w :=
  vector_set_get s.requests u w _

theorem station_completed (s : State) (u : Tag) (r : Request) (status : Status) (i : StationId) :
    (completed s u r status).station i =
      if r.station = i then { s.station r.station with queue := (s.station r.station).queue.erase (.request u) }
      else s.station i :=
  vector_set_get s.stations r.station i _

theorem station_vacated (s : State) (u : Tag) (r : Request) (i : StationId) :
    (vacated s u r).station i =
      if r.station = i then { s.station r.station with queue := (s.station r.station).queue.erase (.request u) }
      else s.station i :=
  vector_set_get s.stations r.station i _

theorem stationsWithout_get (s : State) (target : Target) (p : PostedIndex) (i : StationId) :
    (stationsWithout s target p)[i] =
      if target = .station i then { s.station i with queue := (s.station i).queue.erase (.posted p) }
      else s.station i := by
  cases target with
  | broadcast => rfl
  | station j =>
    refine (vector_set_get s.stations j i _).trans ?_
    by_cases h : j = i
    · subst h; simp
    · simp [h, State.station]

theorem stationsWith_get (s : State) (target : Target) (p : PostedIndex) (i : StationId) :
    (stationsWith s target p)[i] =
      if target = .station i then { s.station i with queue := (s.station i).queue ++ [.posted p] }
      else s.station i := by
  cases target with
  | broadcast => rfl
  | station j =>
    refine (vector_set_get s.stations j i _).trans ?_
    by_cases h : j = i
    · subst h; simp
    · simp [h, State.station]

theorem postedEntry_retired (s : State) (p q : PostedIndex) (e : Posted) (fs : List FaultRecord) (d : Nat) :
    (retired s p e fs d).postedEntry q = if p = q then none else s.postedEntry q :=
  vector_set_get s.posted p q none

theorem postedEntry_joined (s : State) (p q : PostedIndex) (e : Posted) :
    (joined s p e).postedEntry q = if p = q then some { e with order := s.nextOrder } else s.postedEntry q :=
  vector_set_get s.posted p q _

theorem station_retired (s : State) (p : PostedIndex) (e : Posted) (fs : List FaultRecord) (d : Nat) (i : StationId) :
    (retired s p e fs d).station i =
      if e.target = .station i then { s.station i with queue := (s.station i).queue.erase (.posted p) }
      else s.station i :=
  stationsWithout_get s e.target p i

theorem station_joined (s : State) (p : PostedIndex) (e : Posted) (i : StationId) :
    (joined s p e).station i =
      if e.target = .station i then { s.station i with queue := (s.station i).queue ++ [.posted p] }
      else s.station i :=
  stationsWith_get s e.target p i

/-- A row that completes is FREE afterwards, or DONE with its fields otherwise as they were. -/
theorem completedRow_cases (g : Settings) (r : Request) (status : Status) :
    completedRow g r status = none ∨
      ∃ origin, completedRow g r status = some { r with state := .done status, origin := origin } ∧
        (origin = .port ↔ r.origin = .port) := by
  unfold completedRow
  cases h : r.origin with
  | port => exact .inr ⟨.port, by simp [← h], by simp⟩
  | window w =>
    dsimp only
    split
    · exact .inl rfl
    · exact .inr ⟨_, rfl, by simp⟩

/-! ### The Completion List (R21) -/

theorem completedPort_of_unfinished {r : Request} (h : r.unfinished = true) : r.completedPort = false := by
  unfold Request.unfinished at h
  unfold Request.completedPort
  cases hstate : r.state <;> simp_all

theorem completedPort_of_window {r : Request} (h : ofWindow r = true) : r.completedPort = false := by
  unfold ofWindow at h
  unfold Request.completedPort
  cases horigin : r.origin <;> simp_all

/-- The Completion List is exact where the list stays and every row keeps whether it is a completed PORT entry. -/
theorem completionsExact_of_rows (hs : CompletionsExact s) (hl : t.completionList = s.completionList)
    (hr : ∀ u, (t.request u).any Request.completedPort = (s.request u).any Request.completedPort) :
    CompletionsExact t := by
  obtain ⟨hnodup, hmem⟩ := hs
  exact ⟨hl ▸ hnodup, fun u => by rw [hl, hr, hmem]⟩

/-- One row changes that is no completed PORT entry before or after. -/
theorem completionsExact_of_row {u : Tag} {row : Option Request} (hs : CompletionsExact s)
    (hl : t.completionList = s.completionList)
    (ht : ∀ w, t.request w = if u = w then row else s.request w)
    (hbefore : (s.request u).any Request.completedPort = false) (hafter : row.any Request.completedPort = false) :
    CompletionsExact t := by
  refine completionsExact_of_rows hs hl fun w => ?_
  rw [ht]
  split
  next h => rw [← h, hbefore, hafter]
  next => rfl

theorem completionsExact_completed {u : Tag} {r : Request} (r' : Request) (status : Status)
    (hr : s.request u = some r) (hu : r.unfinished = true) (hs : CompletionsExact s) :
    CompletionsExact (completed s u r' status) := by
  have hbefore : (s.request u).any Request.completedPort = false := by
    simp [hr, completedPort_of_unfinished hu]
  cases horigin : r'.origin with
  | window w =>
    refine completionsExact_of_row hs (by simp [completed, completedList, horigin])
      (request_completed s u · r' status) hbefore ?_
    rcases completedRow_cases s.settings r' status with hrow | ⟨origin, hrow, ho⟩
    · simp [hrow]
    · rw [horigin] at ho
      cases origin with
      | port => simp at ho
      | window w' => simp [hrow, Request.completedPort]
  | port =>
    obtain ⟨hnodup, hmem⟩ := hs
    have hnot : u ∉ s.completionList := by rw [hmem, hbefore]; simp
    have hl : (completed s u r' status).completionList = s.completionList ++ [u] := by
      simp [completed, completedList, horigin]
    refine ⟨?_, fun v => ?_⟩
    · rw [hl]
      exact List.nodup_append.mpr ⟨hnodup, by simp, fun a ha b hb e => hnot (by rwa [e, List.mem_singleton.mp hb] at ha)⟩
    · rw [hl, request_completed, List.mem_append, List.mem_singleton, hmem]
      by_cases hv : u = v
      · subst hv
        simp [completedRow, horigin, Request.completedPort]
      · simp [hv, Ne.symm hv]

theorem Effect.completionsExact (h : Effect B W Q s t) (hs : CompletionsExact s) : CompletionsExact t := by
  cases h with
  | rows v l h hlist => exact hlist hs
  | finish u r r' status hr hu => exact completionsExact_completed r' status hr hu hs
  | free u r hr hwindow =>
    exact completionsExact_of_row hs rfl (request_vacated s u · r) (by simp [hr, completedPort_of_window hwindow]) rfl
  | accept u r hfree hqueued =>
    exact completionsExact_of_row hs rfl (request_acceptRequest u · r s) (by simp [hfree])
      (by simp [Request.completedPort, hqueued])
  | work u r r' hr hu hu' =>
    exact completionsExact_of_row hs rfl (request_putRequest s u · _) (by simp [hr, completedPort_of_unfinished hu])
      (by simp [completedPort_of_unfinished hu'])
  | _ => exact hs

/-! ### The attention queue and the fault list -/

theorem Effect.attentionKept (h : Effect B W Q s t) (hs : AttentionKept s) : AttentionKept t := by
  cases h with
  | attention q h => exact h hs
  | _ => exact hs

theorem Effect.faultsKept (h : Effect B W Q s t) (hs : FaultsKept s) : FaultsKept t := by
  cases h with
  | faults fs d h => exact h hs
  | retire p e fs d he hidle h => exact h hs
  | _ => exact hs

/-! ### The staging area and the configuration -/

theorem Effect.stagingKept (h : Effect B W Q s t) (hs : StagingKept s) : StagingKept t := by
  cases h with
  | registers _ _ _ _ _ _ _ _ _ _ _ _ _ _ hstaging => exact hstaging hs
  | _ => exact hs

theorem Effect.settingsInRange (h : Effect B W Q s t) (hs : SettingsInRange s.settings) : SettingsInRange t.settings := by
  cases h with
  | settings g h => exact h hs
  | _ => exact hs

/-! ### The exchange and the stations -/

theorem Effect.attemptsKept (h : Effect B W Q s t) (hs : AttemptsKept s) : AttemptsKept t := by
  unfold AttemptsKept at *
  rcases h.exchange with he | ⟨x, x', hx, hx', hc⟩
  · rwa [he]
  · have := hc.attempt
    have := hc.rises
    simp only [hx, hx', Option.all_some, Bool.and_eq_true, decide_eq_true_eq, hc.limit] at hs ⊢
    omega

theorem pollsKept_iff : PollsKept s ↔ ∀ i, PollKept (s.station i) := Iff.rfl

theorem Effect.pollsKept (h : Effect B W Q s t) (hs : PollsKept s) : PollsKept t := by
  rw [pollsKept_iff] at *
  intro i
  have hi := hs i
  cases h with
  | stations v h => exact (h i).poll hi
  | finish u r r' status =>
    rw [station_completed]
    split
    · exact hs r'.station
    · exact hi
  | free u r =>
    rw [station_vacated]
    split
    · exact hs r.station
    · exact hi
  | accept u r =>
    rw [station_acceptRequest, State.enqueue, station_updateStation]
    split
    · exact hs r.station
    · exact hi
  | retire p e =>
    rw [station_retired]
    split <;> exact hi
  | acceptPosted p e =>
    rw [station_joined]
    split <;> exact hi
  | _ => exact hi

/-! ### The Posted Store (R98, R100) -/

/-- The words a row of the Posted Store takes from the pool (R98). -/
def wordsOf (row : Option Posted) : Nat :=
  match row with
  | some e => e.count
  | none => 0

theorem poolUsed_eq (s : State) : s.poolUsed = ((List.finRange 16).map fun p => wordsOf (s.postedEntry p)).sum := rfl

theorem poolUsed_eq_sum (s : State) : s.poolUsed = ∑ p : PostedIndex, wordsOf (s.postedEntry p) := by
  rw [poolUsed_eq, Fin.sum_univ_def]

/-- The pool after one row has changed. -/
theorem poolUsed_of_row {p : PostedIndex} {row : Option Posted}
    (ht : ∀ q, t.postedEntry q = if p = q then row else s.postedEntry q) :
    t.poolUsed + wordsOf (s.postedEntry p) = s.poolUsed + wordsOf row := by
  rw [poolUsed_eq_sum, poolUsed_eq_sum, Fintype.sum_eq_add_sum_compl p, Fintype.sum_eq_add_sum_compl p,
    ht p, if_pos rfl]
  have hrest : ∑ q ∈ {p}ᶜ, wordsOf (t.postedEntry q) = ∑ q ∈ {p}ᶜ, wordsOf (s.postedEntry q) := by
    refine Finset.sum_congr rfl fun q hq => ?_
    rw [ht, if_neg]
    simpa [eq_comm] using hq
  omega

theorem poolUsed_of_rows (h : ∀ p, wordsOf (t.postedEntry p) = wordsOf (s.postedEntry p)) :
    t.poolUsed = s.poolUsed := by
  simp only [poolUsed_eq, h]

theorem PostedKept.wordsOf_eq {a b : Option Posted} (h : PostedKept a b) : wordsOf b = wordsOf a := by
  cases h with
  | free => rfl
  | kept h => simp [wordsOf, Posted.count, h.data]

theorem Effect.poolKept (h : Effect B W Q s t) (hs : PoolKept s) : PoolKept t := by
  unfold PoolKept at *
  cases h with
  | posteds v h =>
    exact le_of_eq_of_le (poolUsed_of_rows fun p => (h p).wordsOf_eq) hs
  | append p e value he hopen hroom hpool =>
    have h := poolUsed_of_row (postedEntry_putPosted s p · (some (e.append value)))
    have hc : (e.append value).count = e.count + 1 := by simp [Posted.append, Posted.count]
    simp only [he, wordsOf, hc] at h
    unfold State.poolFree at hpool
    omega
  | workPosted p e e' he htarget horder hdata =>
    have h := poolUsed_of_row (postedEntry_putPosted s p · (some e'))
    simp only [he, wordsOf, Posted.count, hdata] at h
    omega
  | retire p e fs d he =>
    have h := poolUsed_of_row (postedEntry_retired s p · e fs d)
    simp only [he, wordsOf] at h
    omega
  | acceptPosted p e hfree hstate hcounts hpool =>
    have h := poolUsed_of_row (postedEntry_joined s p · e)
    simp only [hfree, wordsOf, Posted.count] at h
    unfold State.poolFree Posted.count at hpool
    omega
  | _ => exact hs

/-- A posted row that is OPEN. -/
def isOpen (row : Option Posted) : Prop := row.any (fun e => e.state = .opened) = true

theorem isOpen_some {e : Posted} : isOpen (some e) ↔ e.state = .opened := by simp [isOpen]

/-- At most one entry is OPEN where every OPEN entry was OPEN before. -/
theorem oneOpen_of_rows (h : ∀ p, isOpen (t.postedEntry p) → isOpen (s.postedEntry p)) (hs : OneOpen s) : OneOpen t :=
  fun p q hp hq => hs p q (h p hp) (h q hq)

/-- One row changes to one that is not OPEN, or was OPEN before. -/
theorem oneOpen_of_row {p : PostedIndex} {row : Option Posted}
    (ht : ∀ q, t.postedEntry q = if p = q then row else s.postedEntry q)
    (hrow : isOpen row → isOpen (s.postedEntry p)) (hs : OneOpen s) : OneOpen t := by
  refine oneOpen_of_rows (fun q hq => ?_) hs
  rw [ht] at hq
  split at hq
  next h => exact h ▸ hrow hq
  next => exact hq

theorem PostedKept.isOpen_before {a b : Option Posted} (h : PostedKept a b) (hb : isOpen b) : isOpen a := by
  cases h with
  | free => exact hb
  | kept h => exact isOpen_some.mpr (h.opened (isOpen_some.mp hb))

theorem Effect.oneOpen (h : Effect B W Q s t) (hs : OneOpen s) : OneOpen t := by
  cases h with
  | posteds v h =>
    exact oneOpen_of_rows (fun p => (h p).isOpen_before) hs
  | append p e value he hopen =>
    exact oneOpen_of_row (postedEntry_putPosted s p · _) (fun _ => by rw [he]; exact isOpen_some.mpr hopen) hs
  | workPosted p e e' he htarget horder hdata hopened =>
    exact oneOpen_of_row (postedEntry_putPosted s p · _) (fun h => absurd (isOpen_some.mp h) hopened) hs
  | retire p e fs d he =>
    exact oneOpen_of_row (postedEntry_retired s p · e fs d) (fun h => by simp [isOpen] at h) hs
  | acceptPosted p e hfree hstate =>
    have ht := (postedEntry_joined s p · e)
    rcases hstate with hq | ⟨ho, hnone⟩
    · exact oneOpen_of_row ht (fun h => by rw [isOpen_some] at h; exact absurd (hq.symm.trans h) (by decide)) hs
    · have honly : ∀ q, isOpen ((joined s p e).postedEntry q) → p = q := by
        intro q hq
        rw [ht] at hq
        by_contra hne
        rw [if_neg hne] at hq
        cases hrow : s.postedEntry q with
        | none => simp [hrow, isOpen] at hq
        | some f => exact hnone q f hrow (isOpen_some.mp (hrow ▸ hq))
      exact fun q q' hq hq' => (honly q hq).symm.trans (honly q' hq')
  | _ => exact hs

/-! ### The window quota (R147) -/

theorem windowEntries_eq (s : State) :
    s.windowEntries = (List.finRange 16).countP fun u => (s.request u).any ofWindow := by
  unfold State.windowEntries
  congr 1
  funext u
  cases s.request u with
  | none => rfl
  | some r => rfl

/-- No more window entries where every window entry was one before. -/
theorem windowEntries_le_of_rows (h : ∀ u, (t.request u).any ofWindow = true → (s.request u).any ofWindow = true) :
    t.windowEntries ≤ s.windowEntries := by
  rw [windowEntries_eq, windowEntries_eq]
  exact List.countP_mono_left fun u _ => h u

theorem windowEntries_le_of_row {u : Tag} {row : Option Request}
    (ht : ∀ w, t.request w = if u = w then row else s.request w)
    (hrow : row.any ofWindow = true → (s.request u).any ofWindow = true) : t.windowEntries ≤ s.windowEntries := by
  refine windowEntries_le_of_rows fun w hw => ?_
  rw [ht] at hw
  split at hw
  next h => exact h ▸ hrow hw
  next => exact hw

/-- One row changes: what it counts for is exchanged. -/
theorem windowEntries_of_row {u : Tag} {row : Option Request}
    (ht : ∀ w, t.request w = if u = w then row else s.request w) :
    t.windowEntries + (if (s.request u).any ofWindow then 1 else 0) =
      s.windowEntries + if row.any ofWindow then 1 else 0 := by
  rw [windowEntries_eq, windowEntries_eq]
  have hsum : ∀ l : List Tag, l.Nodup →
      l.countP (fun w => (t.request w).any ofWindow) + (if u ∈ l ∧ (s.request u).any ofWindow then 1 else 0) =
        l.countP (fun w => (s.request w).any ofWindow) + if u ∈ l ∧ row.any ofWindow then 1 else 0 := by
    intro l hl
    induction l with
    | nil => simp
    | cons w l ih =>
      have ih := ih (List.nodup_cons.mp hl).2
      have hw := (List.nodup_cons.mp hl).1
      rw [List.countP_cons, List.countP_cons, ht w]
      by_cases huw : u = w
      · subst huw
        simp only [List.mem_cons, true_or, if_true, true_and, hw, false_and, if_false] at ih ⊢
        omega
      · rw [if_neg huw]
        simp only [List.mem_cons, huw, false_or]
        omega
  simpa using hsum (List.finRange 16) (List.nodup_finRange 16)

/-- At most one window entry more after a change of one row. -/
theorem windowEntries_le_succ {u : Tag} {row : Option Request}
    (ht : ∀ w, t.request w = if u = w then row else s.request w) : t.windowEntries ≤ s.windowEntries + 1 := by
  have := windowEntries_of_row ht
  split at this <;> split at this <;> omega

theorem windowEntries_completed_le (u : Tag) (r r' : Request) (status : Status) (hr : s.request u = some r)
    (h : SameEntry r r') : (completed s u r' status).windowEntries ≤ s.windowEntries := by
  refine windowEntries_le_of_row (request_completed s u · r' status) fun hw => ?_
  rw [hr, Option.any_some, ← h.window]
  rcases completedRow_cases s.settings r' status with hrow | ⟨origin, hrow, ho⟩
  · simp [hrow] at hw
  · unfold ofWindow
    cases horigin : r'.origin with
    | window w => rfl
    | port => rw [ho.mpr horigin] at hrow; simp [hrow, ofWindow] at hw

theorem RowKept.ofWindow_before {a b : Option Request} (h : RowKept a b) (hb : b.any ofWindow = true) :
    a.any ofWindow = true := by
  cases h with
  | free => exact hb
  | kept h => simpa [h.window] using hb
  | gone h => simp at hb

theorem Effect.windowQuotaKept (h : Effect B W Q s t) (hQ : Q) (hs : WindowQuotaKept s) : WindowQuotaKept t := by
  unfold WindowQuotaKept at *
  cases h with
  | rows v l h hlist =>
    exact le_trans (windowEntries_le_of_rows fun u => (h u).ofWindow_before) hs
  | finish u r r' status hr hu h => exact le_trans (windowEntries_completed_le u r r' status hr h) hs
  | free u r hr => exact le_trans (windowEntries_le_of_row (request_vacated s u · r) (by simp)) hs
  | accept u r hfree hqueued hcounts hquota =>
    have ht := (request_acceptRequest u · r s)
    cases hw : ofWindow r with
    | false =>
      refine le_trans (windowEntries_le_of_row ht fun h => ?_) hs
      have : ofWindow { r with order := s.nextOrder } = ofWindow r := rfl
      simp [this, hw] at h
    | true => exact le_trans (windowEntries_le_succ ht) (hquota hQ hw)
  | work u r r' hr hu hu' h =>
    refine le_trans (windowEntries_le_of_row (request_putRequest s u · _) fun hw => ?_) hs
    simpa [hr, h.window] using hw
  | _ => exact hs

end Sys2Proof.Proofs
end

section
/-! PROOFS. What every elementary effect keeps of the queues: each entry's place (R14), the order of acceptance (R13) and
the work at the heads (R15). -/

namespace Sys2Proof.Proofs

open Sys2Proof.Machine Sys2Proof.Claims

variable {B W Q : Prop} {s t : State}

/-! ### Where an entry stands -/

/-- The queue a request entry belongs in, by its row: its station's while it is unfinished (R14). -/
def requestHome : Option Request → Option Target
  | some r => if r.unfinished then some (.station r.station) else none
  | none => none

/-- The queue an entry belongs in: an unfinished request entry in its station's, a posted entry in its target's; none for
any other (R14, R110). -/
def home (s : State) : EntryRef → Option Target
  | .request u => requestHome (s.request u)
  | .posted p => (s.postedEntry p).map Posted.target

theorem home_request {u : Tag} {i : StationId} :
    home s (.request u) = some (.station i) ↔ (s.request u).any (fun r => r.unfinished && r.station = i) = true := by
  show requestHome (s.request u) = some (.station i) ↔ _
  cases s.request u with
  | none => simp [requestHome]
  | some r => simp [requestHome]

theorem home_request_ne_broadcast {u : Tag} : home s (.request u) ≠ some .broadcast := by
  show requestHome (s.request u) ≠ some .broadcast
  cases s.request u with
  | none => simp [requestHome]
  | some r => simp [requestHome]

theorem home_posted {p : PostedIndex} {target : Target} :
    home s (.posted p) = some target ↔ (s.postedEntry p).any (fun e => e.target = target) = true := by
  show (s.postedEntry p).map Posted.target = some target ↔ _
  cases s.postedEntry p <;> simp

/-- The queue of a target, as a list of entries (R14, R110). -/
def queueOf (s : State) : Target → List EntryRef
  | .station i => (s.station i).queue
  | .broadcast => s.broadcastQueue.map .posted

theorem posted_injective : Function.Injective EntryRef.posted := fun _ _ h => EntryRef.posted.inj h

/-- The queues are exact when each holds once the entries that belong in it. -/
theorem queuesExact_iff : QueuesExact s ↔
    (∀ target x, x ∈ queueOf s target ↔ home s x = some target) ∧ ∀ target, (queueOf s target).Nodup := by
  constructor
  · rintro ⟨hr, hp, hb, hnodup, hbnodup⟩
    refine ⟨fun target x => ?_, fun target => ?_⟩
    · cases target with
      | station i =>
        cases x with
        | request u => exact (hr i u).trans home_request.symm
        | posted p => exact (hp i p).trans home_posted.symm
      | broadcast =>
        cases x with
        | request u => simpa [queueOf] using home_request_ne_broadcast
        | posted p => exact (List.mem_map_of_injective posted_injective).trans ((hb p).trans home_posted.symm)
    · cases target with
      | station i => exact hnodup i
      | broadcast => exact hbnodup.map posted_injective
  · rintro ⟨hq, hnodup⟩
    refine ⟨fun i u => (hq (.station i) _).trans home_request, fun i p => (hq (.station i) _).trans home_posted,
      fun p => ?_, fun i => hnodup (.station i), (hnodup .broadcast).of_map⟩
    exact (List.mem_map_of_injective posted_injective).symm.trans ((hq .broadcast _).trans home_posted)

theorem home_of_request {u : Tag} {r : Request} (hr : s.request u = some r) (hu : r.unfinished = true) :
    home s (.request u) = some (.station r.station) := by
  simp [home, requestHome, hr, hu]

theorem home_of_finished {u : Tag} (h : ∀ r, s.request u = some r → r.unfinished = false) :
    home s (.request u) = none := by
  show requestHome (s.request u) = none
  cases hr : s.request u with
  | none => rfl
  | some r => simp [requestHome, h r hr]

theorem home_of_posted {p : PostedIndex} {e : Posted} (he : s.postedEntry p = some e) :
    home s (.posted p) = some e.target := by
  simp [home, he]

theorem home_of_free {p : PostedIndex} (he : s.postedEntry p = none) : home s (.posted p) = none := by
  simp [home, he]

theorem home_request_congr {u : Tag} (h : t.request u = s.request u) : home t (.request u) = home s (.request u) :=
  congrArg requestHome h

theorem home_posted_congr {p : PostedIndex} (h : t.postedEntry p = s.postedEntry p) :
    home t (.posted p) = home s (.posted p) :=
  congrArg (Option.map Posted.target) h

/-! ### The place of an entry in the order of acceptance (R13) -/

/-- The place of an entry in the order of acceptance; none for a FREE entry. -/
def orderPlace (s : State) : EntryRef → Option Nat
  | .request u => (s.request u).map Request.order
  | .posted p => (s.postedEntry p).map Posted.order

theorem orderOf_eq_orderPlace (x : EntryRef) : s.orderOf x = (orderPlace s x).getD 0 := by
  cases x with
  | request u => simp only [State.orderOf, orderPlace]; cases s.request u <;> rfl
  | posted p => simp only [State.orderOf, orderPlace]; cases s.postedEntry p <;> rfl

theorem orderPlace_of_home {x : EntryRef} {target : Target} (h : home s x = some target) : ∃ n, orderPlace s x = some n := by
  cases x with
  | request u =>
    simp only [home, orderPlace] at *
    cases hr : s.request u with
    | none => rw [hr] at h; cases h
    | some r => exact ⟨r.order, rfl⟩
  | posted p =>
    simp only [home, orderPlace] at *
    cases he : s.postedEntry p with
    | none => rw [he] at h; cases h
    | some e => exact ⟨e.order, rfl⟩

theorem home_of_orderPlace_none {x : EntryRef} (h : orderPlace s x = none) : home s x = none := by
  cases hx : home s x with
  | none => rfl
  | some target =>
    obtain ⟨n, hn⟩ := orderPlace_of_home hx
    rw [h] at hn; cases hn

/-! ### How the queues change -/

/-- How the queues change together with what belongs in them: not at all, by the departure of one entry, or by the
arrival of one at the tail. -/
inductive QueueChange (s t : State) : Prop
  | kept (hhome : ∀ x, home t x = home s x) (hqueue : ∀ target, queueOf t target = queueOf s target)
  | left (x : EntryRef) (hgone : home t x = none) (hhome : ∀ y, y ≠ x → home t y = home s y)
      (hqueue : ∀ target, queueOf t target = (queueOf s target).erase x)
  | joined (x : EntryRef) (target : Target) (hfree : orderPlace s x = none) (hhere : home t x = some target)
      (hhome : ∀ y, y ≠ x → home t y = home s y)
      (hqueue : ∀ other, queueOf t other = if target = other then queueOf s other ++ [x] else queueOf s other)

/-- With exact queues an erasure from one target's queue is one from every queue: the entry stands in no other. -/
theorem queue_erase_other (hs : QueuesExact s) {x : EntryRef} {target : Target} (hx : home s x ≠ some target) :
    (queueOf s target).erase x = queueOf s target :=
  List.erase_of_not_mem fun hmem => hx (((queuesExact_iff.mp hs).1 target x).mp hmem)

theorem QueueChange.queuesExact (h : QueueChange s t) (hs : QueuesExact s) : QueuesExact t := by
  obtain ⟨hq, hnodup⟩ := queuesExact_iff.mp hs
  rw [queuesExact_iff]
  cases h with
  | kept hhome hqueue => exact ⟨fun target x => by rw [hqueue, hhome, hq], fun target => hqueue target ▸ hnodup target⟩
  | left x hgone hhome hqueue =>
    refine ⟨fun target y => ?_, fun target => hqueue target ▸ (hnodup target).erase x⟩
    rw [hqueue, (hnodup target).mem_erase_iff]
    by_cases hy : y = x
    · subst hy; simp [hgone]
    · simp [hy, hhome y hy, hq]
  | joined x target hfree hhere hhome hqueue =>
    have hout : ∀ other, x ∉ queueOf s other := fun other hmem => by
      have := (hq other x).mp hmem
      rw [home_of_orderPlace_none hfree] at this
      cases this
    refine ⟨fun other y => ?_, fun other => ?_⟩
    · rw [hqueue]
      by_cases hy : y = x
      · subst hy
        rw [hhere]
        split
        next ht => simp [ht]
        next ht => simpa [hout other] using fun h => ht h
      · rw [hhome y hy, ← hq]
        split <;> simp [hy]
    · rw [hqueue]
      split
      · exact List.nodup_append.mpr ⟨hnodup other, by simp, fun a ha b hb e =>
          hout other (by rwa [e, List.mem_singleton.mp hb] at ha)⟩
      · exact hnodup other

/-! ### The queue change of each effect -/

theorem home_eq_of_rows (hr : ∀ u, home t (.request u) = home s (.request u)) (hp : t.posted = s.posted) (x : EntryRef) :
    home t x = home s x := by
  cases x with
  | request u => exact hr u
  | posted p => exact home_posted_congr (congrArg (·[p]) hp)

theorem RowKept.home_eq {a b : Option Request} (h : RowKept a b) : requestHome b = requestHome a := by
  cases h with
  | free => rfl
  | kept h => simp [requestHome, h.unfinished, h.station]
  | gone h => simp [requestHome, h]

theorem PostedKept.home_eq {a b : Option Posted} (h : PostedKept a b) : b.map Posted.target = a.map Posted.target := by
  cases h with
  | free => rfl
  | kept h => simp [h.target]

/-- A request entry leaves its station's queue. -/
theorem queueChange_of_departure (hs : QueuesExact s) {u : Tag} {r r' : Request} (hr : s.request u = some r)
    (hstation : r'.station = r.station) (hgone : ∀ q, t.request u = some q → q.unfinished = false)
    (hother : ∀ w, w ≠ u → t.request w = s.request w) (hp : t.posted = s.posted)
    (hq : ∀ i, t.station i =
      if r'.station = i then { s.station r'.station with queue := (s.station r'.station).queue.erase (.request u) }
      else s.station i)
    (hb : t.broadcastQueue = s.broadcastQueue) : QueueChange s t := by
  refine .left (.request u) (home_of_finished hgone) (fun y hy => ?_) (fun target => ?_)
  · cases y with
    | request w => exact home_request_congr (hother w fun e => hy (e ▸ rfl))
    | posted p => exact home_posted_congr (congrArg (·[p]) hp)
  · have hnot : ∀ other, other ≠ .station r.station → (queueOf s other).erase (.request u) = queueOf s other :=
      fun other hne => queue_erase_other hs fun e => by
        cases hu : r.unfinished with
        | true => rw [home_of_request hr hu] at e; exact hne (Option.some.inj e).symm
        | false =>
          rw [home_of_finished fun q hq => by rw [hr] at hq; cases hq; exact hu] at e
          cases e
    cases target with
    | broadcast => exact (congrArg (List.map _) hb).trans (hnot .broadcast (by simp)).symm
    | station i =>
      show (t.station i).queue = _
      rw [hq]
      split
      next h => subst h; rfl
      next h => exact (hnot (.station i) fun e => h (hstation.trans (Target.station.inj e).symm)).symm

theorem completedRow_unfinished {g : Settings} {r q : Request} {status : Status}
    (h : completedRow g r status = some q) : q.unfinished = false := by
  rcases completedRow_cases g r status with hrow | ⟨origin, hrow, -⟩
  · rw [hrow] at h; cases h
  · rw [hrow] at h; cases h; rfl

theorem queueChange_putRequest {u : Tag} {r r' : Request} (hr : s.request u = some r)
    (hu : r'.unfinished = r.unfinished) (hstation : r'.station = r.station) :
    QueueChange s (s.putRequest u (some r')) := by
  refine .kept (home_eq_of_rows (fun w => ?_) rfl) (fun target => by cases target <;> rfl)
  simp only [home, request_putRequest]
  split
  next h => subst h; simp [hr, requestHome, hu, hstation]
  next => rfl

theorem queueChange_putPosted {p : PostedIndex} {e e' : Posted} (he : s.postedEntry p = some e)
    (htarget : e'.target = e.target) : QueueChange s (s.putPosted p (some e')) := by
  refine .kept (fun x => ?_) (fun target => by cases target <;> rfl)
  cases x with
  | request u => rfl
  | posted q =>
    simp only [home, postedEntry_putPosted]
    split
    next h => subst h; simp [he, htarget]
    next => rfl

theorem queueChange_of_stations {v : Vector Station 14} (h : ∀ i : StationId, v[i].queue = (s.station i).queue) :
    QueueChange s { s with stations := v } :=
  .kept (fun x => by cases x <;> rfl) fun target => by
    cases target with
    | station i => exact h i
    | broadcast => rfl

theorem queueChange_retired (hs : QueuesExact s) {p : PostedIndex} {e : Posted} (he : s.postedEntry p = some e)
    (fs : List FaultRecord) (d : Nat) : QueueChange s (retired s p e fs d) := by
  refine .left (.posted p) (home_of_free (by simp [postedEntry_retired])) (fun y hy => ?_) (fun target => ?_)
  · cases y with
    | request w => rfl
    | posted q =>
      refine home_posted_congr ?_
      rw [postedEntry_retired, if_neg]
      rintro rfl
      exact hy rfl
  · have hnot : e.target ≠ target → (queueOf s target).erase (.posted p) = queueOf s target := fun hne =>
      queue_erase_other hs fun h => by rw [home_of_posted he] at h; exact hne (Option.some.inj h)
    cases target with
    | station i =>
      show ((retired s p e fs d).station i).queue = _
      rw [station_retired]
      split
      · rfl
      next h => exact (hnot h).symm
    | broadcast =>
      show (broadcastsWithout s e.target p).map EntryRef.posted = _
      unfold broadcastsWithout
      cases htarget : e.target with
      | station i => exact (hnot (by simp [htarget])).symm
      | broadcast => exact List.map_erase posted_injective _

theorem queueChange_joined {p : PostedIndex} {e : Posted} (hfree : s.postedEntry p = none) :
    QueueChange s (joined s p e) := by
  refine .joined (.posted p) e.target (by simp [orderPlace, hfree]) ?_ (fun y hy => ?_) (fun other => ?_)
  · simp [home, postedEntry_joined]
  · cases y with
    | request w => rfl
    | posted q =>
      refine home_posted_congr ?_
      rw [postedEntry_joined, if_neg]
      rintro rfl
      exact hy rfl
  · cases other with
    | station i =>
      show ((joined s p e).station i).queue = _
      rw [station_joined]
      split <;> rfl
    | broadcast =>
      show (broadcastsWith s e.target p).map EntryRef.posted = _
      unfold broadcastsWith
      cases e.target <;> simp [queueOf]

theorem queueChange_acceptRequest {u : Tag} {r : Request} (hfree : s.request u = none) (hu : r.unfinished = true) :
    QueueChange s (acceptRequest u r s) := by
  refine .joined (.request u) (.station r.station) (by simp [orderPlace, hfree]) ?_ (fun y hy => ?_) (fun other => ?_)
  · exact home_of_request (r := { r with order := s.nextOrder }) (by simp [request_acceptRequest]) hu
  · cases y with
    | request w =>
      refine home_request_congr ?_
      rw [request_acceptRequest, if_neg]
      rintro rfl
      exact hy rfl
    | posted p => rfl
  · cases other with
    | broadcast => simp [queueOf, acceptRequest]
    | station i =>
      show ((acceptRequest u r s).station i).queue = _
      rw [station_acceptRequest, queue_enqueue]
      by_cases h : r.station = i
      · subst h; simp [queueOf]
      · simp [queueOf, h]

theorem unfinished_of_queued {r : Request} (h : r.state = .queued) : r.unfinished = true := by
  simp [Request.unfinished, h]

theorem Effect.queueChange (h : Effect B W Q s t) (hs : QueuesExact s) : QueueChange s t := by
  cases h with
  | stations v h => exact queueChange_of_stations fun i => (h i).queue
  | rows v l h =>
    exact .kept (home_eq_of_rows (fun u => (h u).home_eq) rfl) (fun target => by cases target <;> rfl)
  | finish u r r' status hr hu h =>
    refine queueChange_of_departure hs hr h.station (fun q hq => ?_) (fun w hw => ?_) rfl (station_completed s u r' status)
      rfl
    · rw [request_completed, if_pos rfl] at hq
      exact completedRow_unfinished hq
    · rw [request_completed, if_neg (Ne.symm hw)]
  | free u r hr =>
    refine queueChange_of_departure hs hr rfl (fun q hq => ?_) (fun w hw => ?_) rfl (station_vacated s u r) rfl
    · rw [request_vacated, if_pos rfl] at hq
      cases hq
    · rw [request_vacated, if_neg (Ne.symm hw)]
  | accept u r hfree hqueued => exact queueChange_acceptRequest hfree (unfinished_of_queued hqueued)
  | work u r r' hr hu hu' h => exact queueChange_putRequest hr (hu'.trans hu.symm) h.station
  | posteds v h =>
    refine .kept (fun x => ?_) (fun target => by cases target <;> rfl)
    cases x with
    | request u => rfl
    | posted p => exact (h p).home_eq
  | append p e value he => exact queueChange_putPosted he rfl
  | workPosted p e e' he htarget => exact queueChange_putPosted he htarget
  | retire p e fs d he => exact queueChange_retired hs he fs d
  | acceptPosted p e hfree => exact queueChange_joined hfree
  | _ => exact .kept (fun x => by cases x <;> rfl) (fun target => by cases target <;> rfl)

theorem Effect.queuesExact (h : Effect B W Q s t) (hs : QueuesExact s) : QueuesExact t :=
  (h.queueChange hs).queuesExact hs

end Sys2Proof.Proofs
end

section
/-! PROOFS. What every elementary effect keeps of the order of acceptance (R13), of the work at the heads of the queues
(R15, R75) and of the words done (R18). -/

namespace Sys2Proof.Proofs

open Sys2Proof.Machine Sys2Proof.Claims

variable {B W Q : Prop} {s t : State}

/-! ### The order of acceptance -/

/-- Every queue rises in the order of acceptance, and the next acceptance comes after every entry. -/
theorem ordersRising_iff : OrdersRising s ↔
    (∀ target, (queueOf s target).Pairwise fun x y => s.orderOf x < s.orderOf y) ∧
      ∀ x n, orderPlace s x = some n → n < s.nextOrder := by
  constructor
  · rintro ⟨hq, hb, hr, hp⟩
    refine ⟨fun target => ?_, fun x n hx => ?_⟩
    · cases target with
      | station i => exact hq i
      | broadcast => exact List.pairwise_map.mpr hb
    · cases x with
      | request u =>
        obtain ⟨r, hru, rfl⟩ := Option.map_eq_some_iff.mp hx
        simpa [hru] using hr u
      | posted p =>
        obtain ⟨e, hep, rfl⟩ := Option.map_eq_some_iff.mp hx
        simpa [hep] using hp p
  · rintro ⟨hq, hn⟩
    refine ⟨fun i => hq (.station i), (List.pairwise_map (f := EntryRef.posted)).mp (hq .broadcast), fun u => ?_, fun p => ?_⟩
    · cases hr : s.request u with
      | none => rfl
      | some r => simpa using hn (.request u) r.order (by simp [orderPlace, hr])
    · cases he : s.postedEntry p with
      | none => rfl
      | some e => simpa using hn (.posted p) e.order (by simp [orderPlace, he])

/-- How the places change: an entry keeps its place while it is not FREE, and a new one takes the next place. -/
structure PlacesKept (s t : State) : Prop where
  next : s.nextOrder ≤ t.nextOrder
  places : ∀ x n, orderPlace t x = some n →
    orderPlace s x = some n ∨ (orderPlace s x = none ∧ n = s.nextOrder ∧ s.nextOrder < t.nextOrder)

theorem placesKept_of_same (hn : t.nextOrder = s.nextOrder) (h : ∀ x n, orderPlace t x = some n → orderPlace s x = some n) :
    PlacesKept s t :=
  ⟨hn.ge, fun x n hx => .inl (h x n hx)⟩

theorem orderPlace_request_of_row {u : Tag} {row : Option Request}
    (ht : ∀ w, t.request w = if u = w then row else s.request w) (hp : t.posted = s.posted) {x : EntryRef} {n : Nat}
    (hrow : row.map Request.order = some n → orderPlace s (.request u) = some n) (hx : orderPlace t x = some n) :
    orderPlace s x = some n := by
  cases x with
  | request w =>
    simp only [orderPlace, ht] at hx
    split at hx
    next h => exact h ▸ hrow hx
    next => exact hx
  | posted p => exact (congrArg (fun v : Vector (Option Posted) 16 => v[p].map Posted.order) hp).symm.trans hx

theorem orderPlace_posted_of_row {p : PostedIndex} {row : Option Posted}
    (ht : ∀ q, t.postedEntry q = if p = q then row else s.postedEntry q) (hr : t.requests = s.requests) {x : EntryRef}
    {n : Nat} (hrow : row.map Posted.order = some n → orderPlace s (.posted p) = some n) (hx : orderPlace t x = some n) :
    orderPlace s x = some n := by
  cases x with
  | posted q =>
    simp only [orderPlace, ht] at hx
    split at hx
    next h => exact h ▸ hrow hx
    next => exact hx
  | request u => exact (congrArg (fun v : Vector (Option Request) 16 => v[u].map Request.order) hr).symm.trans hx

theorem RowKept.order_before {a b : Option Request} (h : RowKept a b) {n : Nat} (hb : b.map Request.order = some n) :
    a.map Request.order = some n := by
  cases h with
  | free => exact hb
  | kept h => simpa [h.order] using hb
  | gone h => cases hb

theorem PostedKept.order_before {a b : Option Posted} (h : PostedKept a b) {n : Nat}
    (hb : b.map Posted.order = some n) : a.map Posted.order = some n := by
  cases h with
  | free => exact hb
  | kept h => simpa [h.order] using hb

theorem completedRow_order {g : Settings} {r : Request} {status : Status} {n : Nat}
    (h : (completedRow g r status).map Request.order = some n) : r.order = n := by
  rcases completedRow_cases g r status with hrow | ⟨origin, hrow, -⟩
  · rw [hrow] at h; cases h
  · rw [hrow] at h; exact Option.some.inj h

theorem Effect.placesKept (h : Effect B W Q s t) : PlacesKept s t := by
  cases h with
  | rows v l h =>
    refine placesKept_of_same rfl fun x n hx => ?_
    cases x with
    | request u => exact (h u).order_before hx
    | posted p => exact hx
  | posteds v h =>
    refine placesKept_of_same rfl fun x n hx => ?_
    cases x with
    | request u => exact hx
    | posted p => exact (h p).order_before hx
  | finish u r r' status hr hu h =>
    refine placesKept_of_same rfl fun x n hx =>
      orderPlace_request_of_row (request_completed s u · r' status) rfl (fun hn => ?_) hx
    simp [orderPlace, hr, ← completedRow_order hn, h.order]
  | free u r hr =>
    exact placesKept_of_same rfl fun x n hx =>
      orderPlace_request_of_row (request_vacated s u · r) rfl (fun hn => by cases hn) hx
  | work u r r' hr hu hu' h =>
    refine placesKept_of_same rfl fun x n hx =>
      orderPlace_request_of_row (request_putRequest s u · _) rfl (fun hn => ?_) hx
    simpa [orderPlace, hr, h.order] using hn
  | append p e value he =>
    refine placesKept_of_same rfl fun x n hx =>
      orderPlace_posted_of_row (postedEntry_putPosted s p · _) rfl (fun hn => ?_) hx
    simpa [orderPlace, he, Posted.append] using hn
  | workPosted p e e' he htarget horder =>
    refine placesKept_of_same rfl fun x n hx =>
      orderPlace_posted_of_row (postedEntry_putPosted s p · _) rfl (fun hn => ?_) hx
    simpa [orderPlace, he, horder] using hn
  | retire p e fs d =>
    exact placesKept_of_same rfl fun x n hx =>
      orderPlace_posted_of_row (postedEntry_retired s p · e fs d) rfl (fun hn => by cases hn) hx
  | accept u r hfree =>
    refine ⟨Nat.le_succ _, fun x n hx => ?_⟩
    cases x with
    | posted p => exact .inl hx
    | request w =>
      simp only [orderPlace, request_acceptRequest] at hx ⊢
      split at hx
      next h =>
        subst h
        exact .inr ⟨by simp [hfree], (Option.some.inj hx).symm, Nat.lt_succ_self _⟩
      next => exact .inl hx
  | acceptPosted p e hfree =>
    refine ⟨Nat.le_succ _, fun x n hx => ?_⟩
    cases x with
    | request u => exact .inl hx
    | posted q =>
      simp only [orderPlace, postedEntry_joined] at hx ⊢
      split at hx
      next h =>
        subst h
        exact .inr ⟨by simp [hfree], (Option.some.inj hx).symm, Nat.lt_succ_self _⟩
      next => exact .inl hx
  | _ => exact placesKept_of_same rfl fun x n hx => by cases x <;> exact hx

/-- An entry that stands in a queue before and after keeps its place. -/
theorem PlacesKept.orderOf_eq (h : PlacesKept s t) {x : EntryRef} {a b : Target} (hs : home s x = some a)
    (ht : home t x = some b) : t.orderOf x = s.orderOf x := by
  obtain ⟨n, hn⟩ := orderPlace_of_home ht
  obtain ⟨m, hm⟩ := orderPlace_of_home hs
  rw [orderOf_eq_orderPlace, orderOf_eq_orderPlace]
  rcases h.places x n hn with hp | ⟨hp, -, -⟩
  · rw [hn, hp]
  · rw [hm] at hp; cases hp

theorem ordersRising_of_change (hq : QueueChange s t) (hp : PlacesKept s t) (hs : QueuesExact s) (ho : OrdersRising s) :
    OrdersRising t := by
  obtain ⟨hrise, hlt⟩ := ordersRising_iff.mp ho
  obtain ⟨hqs, hnodup⟩ := queuesExact_iff.mp hs
  obtain ⟨hqt, -⟩ := queuesExact_iff.mp (hq.queuesExact hs)
  -- the members of a queue that stay in it rise as before
  have hsub : ∀ target (l : List EntryRef), l.Sublist (queueOf s target) → (∀ x ∈ l, x ∈ queueOf t target) →
      l.Pairwise fun x y => t.orderOf x < t.orderOf y := fun target l hl hin => by
    refine ((hrise target).sublist hl).imp_of_mem fun {x y} hx hy hxy => ?_
    rwa [hp.orderOf_eq ((hqs target x).mp (hl.subset hx)) ((hqt target x).mp (hin x hx)),
      hp.orderOf_eq ((hqs target y).mp (hl.subset hy)) ((hqt target y).mp (hin y hy))]
  refine ordersRising_iff.mpr ⟨fun target => ?_, fun x n hx => ?_⟩
  · cases hq with
    | kept hhome hqueue =>
      rw [hqueue]
      exact hsub target _ (.refl _) fun x hx => by rwa [hqueue]
    | left x hgone hhome hqueue =>
      rw [hqueue]
      exact hsub target _ List.erase_sublist fun y hy => by rwa [hqueue]
    | joined x other hfree hhere hhome hqueue =>
      have hold := hsub target _ (.refl _) fun y hy => by
        rw [hqueue]
        split
        · exact List.mem_append_left _ hy
        · exact hy
      rw [hqueue]
      split
      next =>
        refine List.pairwise_append.mpr ⟨hold, by simp, fun y hy z hz => ?_⟩
        rw [List.mem_singleton.mp hz]
        have hyhome := (hqs target y).mp hy
        obtain ⟨m, hm⟩ := orderPlace_of_home hyhome
        have hyx : y ≠ x := by rintro rfl; rw [hfree] at hm; cases hm
        obtain ⟨n, hn⟩ := orderPlace_of_home hhere
        rw [hp.orderOf_eq hyhome ((hhome y hyx).trans hyhome), orderOf_eq_orderPlace, orderOf_eq_orderPlace, hn, hm]
        rcases hp.places x n hn with h | ⟨-, rfl, -⟩
        · rw [hfree] at h; cases h
        · exact hlt y m hm
      next => exact hold
  · rcases hp.places x n hx with h | ⟨-, rfl, h⟩
    · exact lt_of_lt_of_le (hlt x n h) hp.next
    · exact h

theorem Effect.ordersRising (h : Effect B W Q s t) (hs : QueuesExact s) (ho : OrdersRising s) : OrdersRising t :=
  ordersRising_of_change (h.queueChange hs) h.placesKept hs ho

end Sys2Proof.Proofs
end

section
/-! PROOFS. What every elementary effect keeps of the work at the heads of the queues (R15, R75, R84) and of the words
done (R18). -/

namespace Sys2Proof.Proofs

open Sys2Proof.Machine Sys2Proof.Claims

variable {B W Q : Prop} {s t : State}

/-! ### Entries in progress stand at heads only -/

theorem onlyHeadsBusy_iff : OnlyHeadsBusy s ↔ ∀ target, ∀ x ∈ (queueOf s target).tail, s.busy x = false := by
  constructor
  · rintro ⟨hq, hb⟩ target x hx
    cases target with
    | station i => exact hq i x hx
    | broadcast =>
      rw [queueOf, ← List.map_tail, List.mem_map] at hx
      obtain ⟨p, hp, rfl⟩ := hx
      exact hb p hp
  · intro h
    refine ⟨fun i => h (.station i), fun p hp => h .broadcast _ ?_⟩
    rw [queueOf, ← List.map_tail]
    exact List.mem_map_of_mem hp

theorem unfinished_of_inProgress {r : Request} (h : r.inProgress = true) : r.unfinished = true := by
  unfold Request.inProgress at h
  unfold Request.unfinished
  cases hstate : r.state <;> simp_all

/-- An entry in progress stands in a queue. -/
theorem home_of_busy {x : EntryRef} (h : s.busy x = true) : ∃ target, home s x = some target := by
  cases x with
  | request u =>
    obtain ⟨r, hr, hbusy⟩ := (Option.any_eq_true ..).mp h
    exact ⟨_, home_of_request hr (unfinished_of_inProgress hbusy)⟩
  | posted p =>
    obtain ⟨e, he, -⟩ := (Option.any_eq_true ..).mp h
    exact ⟨_, home_of_posted he⟩

theorem mem_of_mem_tail_erase {α : Type} [DecidableEq α] {l : List α} {a b : α} (h : a ∈ (l.erase b).tail) :
    a ∈ l.tail := by
  cases l with
  | nil => exact h
  | cons c l =>
    rw [List.erase_cons] at h
    split at h
    · exact List.mem_of_mem_tail h
    · exact List.mem_of_mem_erase h

theorem mem_tail_append_singleton {α : Type} {l : List α} {a b : α} (h : a ∈ (l ++ [b]).tail) : a ∈ l.tail ∨ a = b := by
  cases l with
  | nil => simp at h
  | cons c l => simpa using h

theorem onlyHeadsBusy_of_change (hq : QueueChange s t) (hbusy : ∀ x, t.busy x = true → s.busy x = true)
    (hs : OnlyHeadsBusy s) : OnlyHeadsBusy t := by
  rw [onlyHeadsBusy_iff] at *
  have hkeep : ∀ target, ∀ x ∈ (queueOf s target).tail, t.busy x = false := fun target x hx =>
    Bool.eq_false_iff.mpr fun h => by
      have hx' := hbusy x h
      rw [hs target x hx] at hx'
      cases hx'
  intro target x hx
  cases hq with
  | kept hhome hqueue => rw [hqueue] at hx; exact hkeep target x hx
  | left y hgone hhome hqueue => rw [hqueue] at hx; exact hkeep target x (mem_of_mem_tail_erase hx)
  | joined y other hfree hhere hhome hqueue =>
    rw [hqueue] at hx
    split at hx
    · rcases mem_tail_append_singleton hx with hx | rfl
      · exact hkeep target x hx
      · refine Bool.eq_false_iff.mpr fun h => ?_
        obtain ⟨n, hn⟩ := orderPlace_of_home (home_of_busy (hbusy _ h)).choose_spec
        rw [hfree] at hn
        cases hn
    · exact hkeep target x hx

/-- A property of a row that the changed row has only if the row before had it. -/
theorem request_before_of_row {P : Option Request → Prop} {u : Tag} {row : Option Request}
    (ht : ∀ w, t.request w = if u = w then row else s.request w) (hrow : P row → P (s.request u)) (w : Tag)
    (h : P (t.request w)) : P (s.request w) := by
  rw [ht] at h
  split at h
  next he => exact he ▸ hrow h
  next => exact h

theorem posted_before_of_row {P : Option Posted → Prop} {p : PostedIndex} {row : Option Posted}
    (ht : ∀ q, t.postedEntry q = if p = q then row else s.postedEntry q) (hrow : P row → P (s.postedEntry p))
    (q : PostedIndex) (h : P (t.postedEntry q)) : P (s.postedEntry q) := by
  rw [ht] at h
  split at h
  next he => exact he ▸ hrow h
  next => exact h

/-- A test of a state that no finished entry passes. -/
theorem completedRow_any {g : Settings} {r : Request} {status : Status} {test : Request → Bool}
    (htest : ∀ q : Request, q.unfinished = false → test q = false) :
    (completedRow g r status).any test = false := by
  cases h : completedRow g r status with
  | none => rfl
  | some q => exact htest q (completedRow_unfinished h)

/-- A row's test passes after a change only if it passed before. -/
theorem RowKept.any_before {a b : Option Request} (h : RowKept a b) {test : Request → Bool}
    (htest : ∀ r r', SameWork r r' → test r' = true → test r = true) (hb : b.any test = true) : a.any test = true := by
  cases h with
  | free => exact hb
  | kept h => exact htest _ _ h hb
  | gone h => cases hb

theorem PostedKept.any_before {a b : Option Posted} (h : PostedKept a b) {test : Posted → Bool}
    (htest : ∀ e e', SamePosted e e' → test e' = true → test e = true) (hb : b.any test = true) :
    a.any test = true := by
  cases h with
  | free => exact hb
  | kept h => exact htest _ _ h hb

theorem inProgress_of_finished (q : Request) (h : q.unfinished = false) : q.inProgress = false :=
  Bool.eq_false_iff.mpr fun hp => by rw [unfinished_of_inProgress hp] at h; cases h

/-- Tests of the rows that an effect does not bring about: they hold of no finished and of no new entry, and the changes
of a row the effects make do not bring them about. -/
structure OldWork (B : Prop) (f : Request → Bool) (g : Posted → Bool) : Prop where
  finished : ∀ r, r.unfinished = false → f r = false
  queued : ∀ r : Request, r.state = .queued → f r = false
  same : ∀ r r', SameWork r r' → f r' = true → f r = true
  work : ∀ r r' : Request, r'.state ≠ .active → (B → r.inProgress = true) → f r' = true → f r = true
  fresh : ∀ e : Posted, e.state = .queued ∨ e.state = .opened → g e = false
  samePosted : ∀ e e', SamePosted e e' → g e' = true → g e = true
  workPosted : ∀ e e' : Posted, e'.state ≠ .active → (B → e.inProgress = true) → g e' = true → g e = true

/-- What holds of the row of an entry. -/
def rowTest (f : Request → Bool) (g : Posted → Bool) (s : State) : EntryRef → Prop
  | .request u => (s.request u).any f = true
  | .posted p => (s.postedEntry p).any g = true

theorem Effect.rowTest_before {f : Request → Bool} {g : Posted → Bool} (hold : OldWork B f g) (h : Effect B W Q s t)
    (x : EntryRef) (hx : rowTest f g t x) : rowTest f g s x := by
  have hrow : ∀ {u : Tag} {row : Option Request}, (∀ w, t.request w = if u = w then row else s.request w) →
      t.posted = s.posted → (row.any f = true → (s.request u).any f = true) → rowTest f g s x := fun ht hp hr => by
    cases x with
    | request w => exact request_before_of_row (P := fun row => row.any f = true) ht hr w hx
    | posted p => exact (congrArg (fun v : Vector (Option Posted) 16 => v[p].any g) hp).symm.trans hx
  have hposted : ∀ {p : PostedIndex} {row : Option Posted},
      (∀ q, t.postedEntry q = if p = q then row else s.postedEntry q) → t.requests = s.requests →
      (row.any g = true → (s.postedEntry p).any g = true) → rowTest f g s x := fun ht hr hp => by
    cases x with
    | posted q => exact posted_before_of_row (P := fun row => row.any g = true) ht hp q hx
    | request u => exact (congrArg (fun v : Vector (Option Request) 16 => v[u].any f) hr).symm.trans hx
  cases h with
  | rows v l h =>
    cases x with
    | request u => exact (h u).any_before hold.same hx
    | posted p => exact hx
  | posteds v h =>
    cases x with
    | request u => exact hx
    | posted p => exact (h p).any_before hold.samePosted hx
  | finish u r r' status =>
    exact hrow (request_completed s u · r' status) rfl fun h => by
      rw [completedRow_any hold.finished] at h; cases h
  | free u r => exact hrow (request_vacated s u · r) rfl fun h => by cases h
  | accept u r hfree hqueued =>
    exact hrow (request_acceptRequest u · r s) rfl fun h => by
      rw [Option.any_some, hold.queued { r with order := s.nextOrder } hqueued] at h; cases h
  | work u r r' hr _ _ _ hactive _ hbusy =>
    exact hrow (request_putRequest s u · _) rfl fun h => by rw [hr]; exact hold.work r r' hactive hbusy h
  | append p e value he hopen =>
    refine hposted (postedEntry_putPosted s p · _) rfl fun h => ?_
    rw [Option.any_some, hold.fresh] at h
    · cases h
    · unfold Posted.append
      dsimp only
      split
      · exact .inl rfl
      · exact .inr hopen
  | workPosted p e e' he _ _ _ _ hactive _ hbusy =>
    exact hposted (postedEntry_putPosted s p · _) rfl fun h => by
      rw [he]; exact hold.workPosted e e' hactive hbusy h
  | retire p e fs d => exact hposted (postedEntry_retired s p · e fs d) rfl fun h => by cases h
  | acceptPosted p e hfree hstate =>
    exact hposted (postedEntry_joined s p · e) rfl fun h => by
      rw [Option.any_some, hold.fresh { e with order := s.nextOrder } (hstate.imp id And.left)] at h; cases h
  | _ => cases x <;> exact hx

theorem oldWork_inProgress (hB : B) : OldWork B Request.inProgress Posted.inProgress where
  finished := inProgress_of_finished
  queued r h := by simp [Request.inProgress, h]
  same _ _ h := h.busy
  work _ _ _ h _ := h hB
  fresh e h := by rcases h with h | h <;> simp [Posted.inProgress, h]
  samePosted _ _ h := h.busy
  workPosted _ _ _ h _ := h hB

/-- An effect brings no entry into progress. -/
theorem Effect.busy_before (h : Effect B W Q s t) (hB : B) (x : EntryRef) (hx : t.busy x = true) : s.busy x = true := by
  have := h.rowTest_before (oldWork_inProgress hB) x
  cases x <;> exact this hx

theorem Effect.onlyHeadsBusy (h : Effect B W Q s t) (hB : B) (hs : QueuesExact s) (hb : OnlyHeadsBusy s) :
    OnlyHeadsBusy t :=
  onlyHeadsBusy_of_change (h.queueChange hs) (h.busy_before hB) hb

/-! ### The owner of the exchange in flight -/

/-- An ACTIVE entry. -/
def isActive (s : State) (x : EntryRef) : Prop :=
  rowTest (fun r => r.state = .active) (fun e => e.state = .active) s x

/-- The owner an entry is of its exchange (R75). -/
def ownerOf : EntryRef → Owner
  | .request u => .request u
  | .posted p => .posted p

theorem ownerStands_iff : OwnerStands s ↔
    (∀ x, s.exchange = some x → s.ownerStands x = true ∧ x.phaseOfKind = true) ∧
      ∀ y, isActive s y → ∃ x, s.exchange = some x ∧ x.owner = ownerOf y := by
  have hany : ∀ owner, s.exchange.any (fun x => x.owner = owner) = true ↔ ∃ x, s.exchange = some x ∧ x.owner = owner :=
    fun owner => by cases s.exchange <;> simp
  constructor
  · rintro ⟨hx, hr, hp⟩
    refine ⟨fun x he => by simpa [he] using hx, fun y hy => ?_⟩
    cases y with
    | request u => exact (hany _).mp (hr u hy)
    | posted p => exact (hany _).mp (hp p hy)
  · rintro ⟨hx, hy⟩
    refine ⟨?_, fun u hu => (hany _).mpr (hy (.request u) hu), fun p hp => (hany _).mpr (hy (.posted p) hp)⟩
    cases he : s.exchange with
    | none => rfl
    | some x => simpa using hx x he

theorem active_of_finished (q : Request) (h : q.unfinished = false) : decide (q.state = .active) = false := by
  unfold Request.unfinished at h
  cases hq : q.state <;> simp_all

theorem oldWork_active : OldWork B (fun r => r.state = .active) fun e => e.state = .active where
  finished := active_of_finished
  queued r h := by simp [h]
  same _ _ h := by simpa using h.active
  work _ _ h _ ha := absurd (by simpa using ha) h
  fresh e h := by rcases h with h | h <;> simp [h]
  samePosted _ _ h := by simpa using h.active.mp
  workPosted _ _ h _ ha := absurd (by simpa using ha) h

/-- An effect makes no entry ACTIVE. -/
theorem Effect.active_before (h : Effect B W Q s t) (y : EntryRef) : isActive t y → isActive s y :=
  h.rowTest_before oldWork_active y

/-- The entry an exchange is about stays where it stands: a request entry in the state its kind needs, a posted entry
ACTIVE. -/
inductive Carried (kind : ExchangeKind) (s t : State) : EntryRef → Prop
  | request {u : Tag} {r r' : Request} (hr : s.request u = some r) (hcarries : r.carries kind = true)
      (hr' : t.request u = some r') (hcarries' : r'.carries kind = true) (hcount : r'.count = r.count)
      (hdone : r'.wordsDone = r.wordsDone) : Carried kind s t (.request u)
  | posted {p : PostedIndex} {e e' : Posted} (he : s.postedEntry p = some e) (hactive : e.state = .active)
      (he' : t.postedEntry p = some e') (hactive' : e'.state = .active) (hcount : e'.count = e.count)
      (hdone : e'.wordsDone = e.wordsDone) : Carried kind s t (.posted p)

theorem unfinished_of_carries {r : Request} {kind : ExchangeKind} (h : r.carries kind = true) :
    r.unfinished = true ∧ r.inProgress = true ∧ ¬ Idles r := by
  unfold Request.carries at h
  unfold Request.unfinished Request.inProgress Idles
  cases hr : r.state <;> cases kind <;> simp_all

/-- While an exchange is in flight an effect leaves the entry in hand alone. -/
theorem Effect.carried_request {u : Tag} {r : Request} {kind : ExchangeKind} (h : Effect B W Q s t)
    (hx : s.exchange ≠ none) (hr : s.request u = some r) (hc : r.carries kind = true) :
    Carried kind s t (.request u) := by
  obtain ⟨hunfinished, -, hidles⟩ := unfinished_of_carries hc
  have hsame : t.request u = s.request u → Carried kind s t (.request u) := fun e =>
    .request hr hc (e.trans hr) hc rfl rfl
  have hother : ∀ {w : Tag} {row : Option Request}, (∀ v, t.request v = if w = v then row else s.request v) → w ≠ u →
      Carried kind s t (.request u) := fun ht hne => hsame (by rw [ht, if_neg hne])
  cases h with
  | rows v l h =>
    have hu : RowKept (s.request u) v[u] := h u
    rw [hr] at hu
    generalize hrow : v[u] = row at hu
    cases hu with
    | kept h => exact .request hr hc hrow (h.carries kind hc) h.count h.wordsDone
    | gone h => rw [hunfinished] at h; cases h
  | finish w q q' status hq _ _ hidle =>
    refine hother (request_completed s w · q' status) fun e => ?_
    subst e
    rw [hr] at hq
    cases hq
    exact hidle.elim hidles hx
  | free w q hq _ hidle =>
    refine hother (request_vacated s w · q) fun e => ?_
    subst e
    rw [hr] at hq
    cases hq
    rcases hidle with hidle | hidle
    · rw [hunfinished] at hidle; cases hidle
    · exact hx hidle
  | accept w q hfree =>
    refine hother (request_acceptRequest w · q s) fun e => ?_
    subst e
    rw [hr] at hfree
    cases hfree
  | work w q q' _ _ _ _ _ hidle => exact absurd hidle hx
  | _ => exact hsame rfl

theorem Effect.carried_posted {p : PostedIndex} {e : Posted} {kind : ExchangeKind} (h : Effect B W Q s t)
    (hx : s.exchange ≠ none) (he : s.postedEntry p = some e) (ha : e.state = .active) :
    Carried kind s t (.posted p) := by
  have hsame : t.postedEntry p = s.postedEntry p → Carried kind s t (.posted p) := fun e =>
    .posted he ha (e.trans he) ha rfl rfl
  have hother : ∀ {q : PostedIndex} {row : Option Posted},
      (∀ v, t.postedEntry v = if q = v then row else s.postedEntry v) → q ≠ p →
      Carried kind s t (.posted p) := fun ht hne => hsame (by rw [ht, if_neg hne])
  cases h with
  | posteds v h =>
    have hp : PostedKept (s.postedEntry p) v[p] := h p
    rw [he] at hp
    generalize hrow : v[p] = row at hp
    cases hp with
    | kept h => exact .posted he ha hrow (h.active.mpr ha) (by simp [Posted.count, h.data]) h.wordsDone
  | append q f value hf hopen =>
    refine hother (postedEntry_putPosted s q · _) fun e => ?_
    subst e
    rw [he] at hf
    cases hf
    rw [ha] at hopen
    cases hopen
  | workPosted q f f' _ _ _ _ _ _ hidle => exact absurd hidle hx
  | retire q f fs d hf hidle =>
    refine hother (postedEntry_retired s q · f fs d) fun e => ?_
    subst e
    rw [he] at hf
    cases hf
    exact hidle.elim (fun h => h ha) hx
  | acceptPosted q f hfree =>
    refine hother (postedEntry_joined s q · f) fun e => ?_
    subst e
    rw [he] at hfree
    cases hfree
  | _ => exact hsame rfl

theorem head?_erase_of_ne {α : Type} [DecidableEq α] {l : List α} {a b : α} (h : l.head? = some a) (hne : a ≠ b) :
    (l.erase b).head? = some a := by
  cases l with
  | nil => cases h
  | cons c l =>
    cases h
    rw [List.erase_cons_tail (by simpa using hne)]
    rfl

theorem head?_append_of_some {α : Type} {l : List α} {a b : α} (h : l.head? = some a) : (l ++ [b]).head? = some a := by
  cases l with
  | nil => cases h
  | cons c l => exact h

/-- An entry that is carried keeps its place at the head of a station's queue. -/
theorem Effect.head?_kept {y : EntryRef} {kind : ExchangeKind} {i : StationId} (h : Effect B W Q s t)
    (hy : Carried kind s t y) (hhead : (s.station i).queue.head? = some y) : (t.station i).queue.head? = some y := by
  have hleft : ∀ x, x ≠ y → ((s.station i).queue.erase x).head? = some y := fun x hne =>
    head?_erase_of_ne hhead (Ne.symm hne)
  cases h with
  | stations v h => rwa [show ({ s with stations := v } : State).station i = v[i] from rfl, (h i).queue]
  | finish w q q' status =>
    rw [station_completed]
    split
    next e =>
      subst e
      refine hleft _ fun e => ?_
      subst e
      cases hy with
      | request hr hc hr' hc' =>
        rw [request_completed, if_pos rfl] at hr'
        have := (unfinished_of_carries hc').1
        rw [completedRow_unfinished hr'] at this
        cases this
    next => exact hhead
  | free w q =>
    rw [station_vacated]
    split
    next e =>
      subst e
      refine hleft _ fun e => ?_
      subst e
      cases hy with
      | request hr hc hr' => rw [request_vacated, if_pos rfl] at hr'; cases hr'
    next => exact hhead
  | accept w q =>
    rw [station_acceptRequest, queue_enqueue]
    split
    next e => subst e; exact head?_append_of_some hhead
    next => exact hhead
  | retire p e fs d =>
    rw [station_retired]
    split
    next =>
      refine hleft _ fun e => ?_
      subst e
      cases hy with
      | posted he ha he' => rw [postedEntry_retired, if_pos rfl] at he'; cases he'
    next => exact hhead
  | acceptPosted p e =>
    rw [station_joined]
    split
    next => exact head?_append_of_some hhead
    next => exact hhead
  | _ => exact hhead

/-- An entry that is carried keeps its place at the head of the broadcast queue. -/
theorem Effect.broadcast_head?_kept {p : PostedIndex} {kind : ExchangeKind} (h : Effect B W Q s t)
    (hp : Carried kind s t (.posted p)) (hhead : s.broadcastQueue.head? = some p) :
    t.broadcastQueue.head? = some p := by
  cases h with
  | retire q e fs d =>
    show (broadcastsWithout s e.target q).head? = some p
    unfold broadcastsWithout
    split
    · exact hhead
    · refine head?_erase_of_ne hhead fun e => ?_
      subst e
      cases hp with
      | posted he ha he' => rw [postedEntry_retired, if_pos rfl] at he'; cases he'
  | acceptPosted q e =>
    show (broadcastsWith s e.target q).head? = some p
    unfold broadcastsWith
    split
    · exact hhead
    · exact head?_append_of_some hhead
  | _ => exact hhead

/-- Where the owner of an exchange stands (R75). -/
theorem ownerStands_cases {x : Exchange} : s.ownerStands x = true ↔
    (∃ u i r, x.owner = .request u ∧ x.destination = .station i ∧ (s.station i).queue.head? = some (.request u) ∧
      s.request u = some r ∧ r.carries x.kind = true) ∨
    (∃ p i e, x.owner = .posted p ∧ x.destination = .station i ∧ (s.station i).queue.head? = some (.posted p) ∧
      x.kind = .writeSegment ∧ x.parkable = false ∧ s.postedEntry p = some e ∧ e.state = .active) ∨
    (∃ p e, x.owner = .posted p ∧ x.destination = .broadcast ∧ s.broadcastQueue.head? = some p ∧
      x.kind = .broadcast ∧ s.postedEntry p = some e ∧ e.state = .active) ∨
    ∃ i, x.owner = .station i ∧ x.destination = .station i ∧ (x.kind = .poll ∨ x.kind = .identify) := by
  unfold State.ownerStands
  cases ho : x.owner with
  | request u =>
    cases hd : x.destination with
    | station i => cases hr : s.request u <;> simp [hr]
    | broadcast => simp
  | posted p =>
    cases hd : x.destination with
    | station i => cases he : s.postedEntry p <;> simp [he, and_assoc]
    | broadcast => cases he : s.postedEntry p <;> simp [he, and_assoc]
  | station i =>
    cases hd : x.destination with
    | station j => simpa using fun _ => eq_comm
    | broadcast => simp

theorem Effect.ownerStands_kept {x : Exchange} (h : Effect B W Q s t) (hx : s.exchange ≠ none)
    (hs : s.ownerStands x = true) : t.ownerStands x = true := by
  rw [ownerStands_cases] at *
  rcases hs with ⟨u, i, r, ho, hd, hhead, hr, hc⟩ | ⟨p, i, e, ho, hd, hhead, hk, hpark, he, ha⟩ |
    ⟨p, e, ho, hd, hhead, hk, he, ha⟩ | hstation
  · have hcar := h.carried_request hx hr hc
    have hhead' := h.head?_kept hcar hhead
    cases hcar with
    | request _ _ hr' hc' => exact .inl ⟨u, i, _, ho, hd, hhead', hr', hc'⟩
  · have hcar := h.carried_posted (kind := x.kind) hx he ha
    have hhead' := h.head?_kept hcar hhead
    cases hcar with
    | posted _ _ he' ha' => exact .inr (.inl ⟨p, i, _, ho, hd, hhead', hk, hpark, he', ha'⟩)
  · have hcar := h.carried_posted (kind := x.kind) hx he ha
    have hhead' := h.broadcast_head?_kept hcar hhead
    cases hcar with
    | posted _ _ he' ha' => exact .inr (.inr (.inl ⟨p, _, ho, hd, hhead', hk, he', ha'⟩))
  · exact .inr (.inr (.inr hstation))

theorem Continues.ownerStands_eq {x x' : Exchange} (h : Continues x x') (s : State) :
    s.ownerStands x' = s.ownerStands x := by
  have hpark : x'.parkable = x.parkable := by simp [Exchange.parkable, h.frame]
  simp only [State.ownerStands, h.owner, h.destination, h.kind, hpark]

theorem Effect.ownerStandsKept (h : Effect B W Q s t) (hs : OwnerStands s) : OwnerStands t := by
  obtain ⟨hx, hactive⟩ := ownerStands_iff.mp hs
  refine ownerStands_iff.mpr ⟨fun x' hx' => ?_, fun y hy => ?_⟩
  · rcases h.exchange with he | ⟨x, x'', hsx, htx, hc⟩
    · rw [he] at hx'
      exact ⟨h.ownerStands_kept (by simp [hx']) (hx x' hx').1, (hx x' hx').2⟩
    · rw [htx] at hx'
      cases hx'
      obtain ⟨hstands, hphase⟩ := hx x hsx
      exact ⟨(hc.ownerStands_eq t).trans (h.ownerStands_kept (by simp [hsx]) hstands), hc.phase hphase⟩
  · obtain ⟨x, hsx, howner⟩ := hactive y (h.active_before y hy)
    rcases h.exchange with he | ⟨x₁, x', hsx', htx, hc⟩
    · exact ⟨x, he.trans hsx, howner⟩
    · rw [hsx] at hsx'
      cases hsx'
      exact ⟨x', htx, hc.owner.trans howner⟩

/-! ### Words done (R18) -/

/-- The counts of every row are in order. -/
def RowsCounted (s : State) : Prop :=
  (∀ u : Tag, (s.request u).all Request.countsKept = true) ∧ ∀ p : PostedIndex, (s.postedEntry p).all Posted.countsKept = true

theorem wordsDoneKept_iff : WordsDoneKept s ↔ RowsCounted s ∧ s.exchange.all s.segmentFits = true := by
  unfold WordsDoneKept RowsCounted
  rw [and_assoc]

theorem request_counts_of_row {u : Tag} {row : Option Request}
    (ht : ∀ w, t.request w = if u = w then row else s.request w) (hp : t.posted = s.posted)
    (hrow : row.all Request.countsKept = true) (hs : RowsCounted s) : RowsCounted t := by
  refine ⟨fun w => ?_, fun p => ?_⟩
  · rw [ht]
    split
    · exact hrow
    · exact hs.1 w
  · exact (congrArg (fun v : Vector (Option Posted) 16 => v[p].all Posted.countsKept) hp).trans (hs.2 p)

theorem posted_counts_of_row {p : PostedIndex} {row : Option Posted}
    (ht : ∀ q, t.postedEntry q = if p = q then row else s.postedEntry q) (hr : t.requests = s.requests)
    (hrow : row.all Posted.countsKept = true) (hs : RowsCounted s) : RowsCounted t := by
  refine ⟨fun u => ?_, fun q => ?_⟩
  · exact (congrArg (fun v : Vector (Option Request) 16 => v[u].all Request.countsKept) hr).trans (hs.1 u)
  · rw [ht]
    split
    · exact hrow
    · exact hs.2 q

theorem completedRow_counts {g : Settings} {r : Request} {status : Status}
    (h : { r with state := .done status }.countsKept = true) :
    (completedRow g r status).all Request.countsKept = true := by
  rcases completedRow_cases g r status with hrow | ⟨origin, hrow, -⟩
  · rw [hrow]; rfl
  · rw [hrow]; exact h

theorem posted_counts_iff {e : Posted} : e.countsKept = true ↔ 1 ≤ e.count ∧ e.count ≤ 16 ∧ e.wordsDone ≤ e.count := by
  simp [Posted.countsKept, and_assoc]

theorem counts_of_request (hs : RowsCounted s) {u : Tag} {r : Request} (hr : s.request u = some r) :
    r.countsKept = true := by
  simpa [hr] using hs.1 u

theorem counts_of_posted (hs : RowsCounted s) {p : PostedIndex} {e : Posted} (he : s.postedEntry p = some e) :
    e.countsKept = true := by
  simpa [he] using hs.2 p

theorem RowKept.counts {a b : Option Request} (h : RowKept a b) (ha : a.all Request.countsKept = true) :
    b.all Request.countsKept = true := by
  cases h with
  | free => exact ha
  | kept h => exact h.counts ha
  | gone h => rfl

theorem PostedKept.counts {a b : Option Posted} (h : PostedKept a b) (ha : a.all Posted.countsKept = true) :
    b.all Posted.countsKept = true := by
  cases h with
  | free => exact ha
  | kept h =>
    rw [Option.all_some, posted_counts_iff] at *
    simpa [Posted.count, h.data, h.wordsDone] using ha

theorem Effect.rowsCounted (h : Effect B W Q s t) (hW : W) (hs : RowsCounted s) : RowsCounted t := by
  cases h with
  | rows v l h => exact ⟨fun u => (h u).counts (hs.1 u), hs.2⟩
  | posteds v h => exact ⟨hs.1, fun p => (h p).counts (hs.2 p)⟩
  | finish u r r' status hr _ _ _ hcounts =>
    exact request_counts_of_row (request_completed s u · r' status) rfl
      (completedRow_counts (hcounts hW (counts_of_request hs hr))) hs
  | free u r => exact request_counts_of_row (request_vacated s u · r) rfl rfl hs
  | accept u r _ _ hcounts => exact request_counts_of_row (request_acceptRequest u · r s) rfl hcounts hs
  | work u r r' hr _ _ _ _ _ _ hcounts =>
    exact request_counts_of_row (request_putRequest s u · _) rfl (hcounts hW (counts_of_request hs hr)) hs
  | append p e value he hopen hroom =>
    refine posted_counts_of_row (postedEntry_putPosted s p · _) rfl ?_ hs
    have hc := posted_counts_iff.mp (counts_of_posted hs he)
    have hcount : (e.append value).count = e.count + 1 := by simp [Posted.append, Posted.count]
    have hdone : (e.append value).wordsDone = e.wordsDone := rfl
    rw [Option.all_some, posted_counts_iff, hcount, hdone]
    unfold Config.entryWords at hroom
    omega
  | workPosted p e e' he _ _ _ _ _ _ _ hcounts =>
    exact posted_counts_of_row (postedEntry_putPosted s p · _) rfl (hcounts hW (counts_of_posted hs he)) hs
  | retire p e fs d => exact posted_counts_of_row (postedEntry_retired s p · e fs d) rfl rfl hs
  | acceptPosted p e _ _ hcounts => exact posted_counts_of_row (postedEntry_joined s p · e) rfl hcounts hs
  | _ => exact hs

/-- Whether a segment fits depends on the row of its owner alone. -/
theorem segmentFits_of_rows {x : Exchange}
    (hr : ∀ u, x.owner = .request u → (t.request u).map (fun r => (r.wordsDone, r.count)) =
      (s.request u).map fun r => (r.wordsDone, r.count))
    (hp : ∀ p, x.owner = .posted p → (t.postedEntry p).map (fun e => (e.wordsDone, e.count)) =
      (s.postedEntry p).map fun e => (e.wordsDone, e.count))
    (hs : s.segmentFits x = true) : t.segmentFits x = true := by
  have hall : ∀ {α : Type} (f : α → Nat × Nat) (a b : Option α), b.map f = a.map f →
      (a.all fun r => (f r).1 + x.count ≤ (f r).2) = true → (b.all fun r => (f r).1 + x.count ≤ (f r).2) = true :=
    fun f a b hab ha => by
      cases a <;> cases b <;> simp_all
  unfold State.segmentFits at *
  split at hs
  next u hk ho => exact hall _ _ _ (hr u ho) hs
  next u hk ho => exact hall _ _ _ (hr u ho) hs
  next p hk ho => exact hall _ _ _ (hp p ho) hs
  next => rfl

theorem Continues.segmentFits_eq {x x' : Exchange} (h : Continues x x') (s : State) :
    s.segmentFits x' = s.segmentFits x := by
  have hcount : x'.count = x.count := by simp [Exchange.count, h.frame]
  simp only [State.segmentFits, h.kind, h.owner, hcount]

theorem Effect.segmentFits_kept {x : Exchange} (h : Effect B W Q s t) (hx : s.exchange ≠ none)
    (hstands : s.ownerStands x = true) (hs : s.segmentFits x = true) : t.segmentFits x = true := by
  refine segmentFits_of_rows (fun u ho => ?_) (fun p ho => ?_) hs
  · rcases ownerStands_cases.mp hstands with ⟨w, i, r, ho', -, -, hr, hc⟩ | ⟨p, i, e, ho', -⟩ | ⟨p, e, ho', -⟩ |
      ⟨i, ho', -⟩ <;> rw [ho] at ho' <;> cases ho'
    cases h.carried_request hx hr hc with
    | request hr₀ _ hr' _ hcount hdone => rw [hr₀, hr']; simp [hcount, hdone]
  · have hposted : ∃ e, s.postedEntry p = some e ∧ e.state = .active := by
      rcases ownerStands_cases.mp hstands with ⟨w, i, r, ho', -⟩ | ⟨p, i, e, ho', -, -, -, -, he, ha⟩ |
        ⟨p, e, ho', -, -, -, he, ha⟩ | ⟨i, ho', -⟩ <;> rw [ho] at ho' <;> cases ho'
      · exact ⟨e, he, ha⟩
      · exact ⟨e, he, ha⟩
    obtain ⟨e, he, ha⟩ := hposted
    cases h.carried_posted (kind := x.kind) hx he ha with
    | posted he₀ _ he' _ hcount hdone => rw [he₀, he']; simp [hcount, hdone]

theorem Effect.wordsDoneKept (h : Effect B W Q s t) (hW : W) (hstands : OwnerStands s) (hs : WordsDoneKept s) :
    WordsDoneKept t := by
  rw [wordsDoneKept_iff] at *
  refine ⟨h.rowsCounted hW hs.1, ?_⟩
  have hx := (ownerStands_iff.mp hstands).1
  have hfits := hs.2
  rcases h.exchange with he | ⟨x, x', hsx, htx, hc⟩
  · rw [he]
    cases hsx : s.exchange with
    | none => rfl
    | some x =>
      rw [hsx] at hfits
      exact h.segmentFits_kept (by simp [hsx]) (hx x hsx).1 hfits
  · rw [hsx] at hfits
    rw [htx, Option.all_some, hc.segmentFits_eq]
    exact h.segmentFits_kept (by simp [hsx]) (hx x hsx).1 hfits

/-! ### The link's view of the stations -/

/-- Stations keep their state, and a queue fills only at a station that is ONLINE. -/
structure StandingKept (s t : State) : Prop where
  state : ∀ i, (t.station i).state = (s.station i).state
  queue : ∀ i, (s.station i).state ≠ .online → (s.station i).queue = [] → (t.station i).queue = []

theorem StandingKept.refl (s : State) : StandingKept s s := ⟨fun _ => rfl, fun _ _ h => h⟩

theorem StandingKept.trans {u : State} (h : StandingKept s t) (k : StandingKept t u) : StandingKept s u :=
  ⟨fun i => (k.state i).trans (h.state i), fun i hi hq => k.queue i (h.state i ▸ hi) (h.queue i hi hq)⟩

theorem standingKept_of_stations (h : t.stations = s.stations) : StandingKept s t := by
  have hi : ∀ i, t.station i = s.station i := fun i => congrArg (fun v : Vector Station 14 => v[i]) h
  exact ⟨fun i => by rw [hi], fun i _ hq => by rw [hi, hq]⟩

/-- One station's queue changes, and is still empty if it was and the station is not ONLINE. -/
theorem standingKept_of_queue {i : StationId} {queue : List EntryRef}
    (ht : ∀ j, t.station j = if i = j then { s.station i with queue := queue } else s.station j)
    (hq : (s.station i).state ≠ .online → (s.station i).queue = [] → queue = []) : StandingKept s t := by
  refine ⟨fun j => ?_, fun j hj hqj => ?_⟩
  · rw [ht]
    split
    next h => subst h; rfl
    next => rfl
  · rw [ht]
    split
    next h => subst h; exact hq hj hqj
    next => exact hqj

theorem erase_of_nil {α : Type} [DecidableEq α] {l : List α} {a : α} (h : l = []) : l.erase a = [] := by
  rw [h]; rfl

theorem not_online_of_ne {i : StationId} (h : (s.station i).state ≠ .online) : ¬ s.online i = true := by
  simpa [State.online] using h

theorem Effect.standingKept (h : Effect B W Q s t) : StandingKept s t := by
  cases h with
  | stations v h => exact ⟨fun i => (h i).state, fun i _ hq => (h i).queue.trans hq⟩
  | finish u r r' status =>
    exact standingKept_of_queue (station_completed s u r' status) fun _ hq => erase_of_nil hq
  | free u r => exact standingKept_of_queue (station_vacated s u r) fun _ hq => erase_of_nil hq
  | accept u r _ _ _ _ honline =>
    refine standingKept_of_queue (i := r.station) (queue := (s.station r.station).queue ++ [.request u]) (fun j => ?_)
      fun h _ => absurd honline (not_online_of_ne h)
    rw [station_acceptRequest, State.enqueue, station_updateStation]
  | retire p e fs d =>
    cases htarget : e.target with
    | broadcast =>
      exact standingKept_of_stations (by simp [retired, stationsWithout, htarget])
    | station i =>
      refine standingKept_of_queue (i := i) (fun j => ?_) fun _ hq => erase_of_nil hq (a := .posted p)
      rw [station_retired, htarget]
      by_cases h : i = j
      · subst h; simp
      · simp [h]
  | acceptPosted p e _ _ _ _ honline =>
    cases htarget : e.target with
    | broadcast =>
      exact standingKept_of_stations (by simp [joined, stationsWith, htarget])
    | station i =>
      refine standingKept_of_queue (i := i) (queue := (s.station i).queue ++ [.posted p]) (fun j => ?_)
        fun h _ => absurd (honline i htarget) (not_online_of_ne h)
      rw [station_joined, htarget]
      by_cases h : i = j
      · subst h; simp
      · simp [h]
  | _ => exact standingKept_of_stations rfl

theorem Effects.standingKept (h : Effects B W Q s t) : StandingKept s t :=
  h.keeps (P := StandingKept s) (fun _ _ he hs => hs.trans he.standingKept) (StandingKept.refl s)

end Sys2Proof.Proofs
end

section
/-! PROOFS. The checks of SUBMIT (R9): the chain of conditions of the model is the search for the first of R9's table
that holds. -/

namespace Sys2Proof.Proofs

open Sys2Proof.Machine Sys2Proof.Claims

variable {s : State}

/-- The code a staged kind has (R189). -/
def kindCode : StagedKind → BitVec 4
  | .read => 1#4
  | .confirmedWrite => 2#4
  | .modify => 3#4
  | .postedWrite => 4#4
  | .broadcastWrite => 5#4

theorem stagedKind_eq_some {code : BitVec 4} {kind : StagedKind} : stagedKind code = some kind ↔ code = kindCode kind := by
  cases kind <;> revert code <;> decide

theorem stagedKind_eq_none {code : BitVec 4} : stagedKind code = none ↔ ¬(1 ≤ code.toNat ∧ code.toNat ≤ 5) := by
  revert code
  decide

theorem stagedRelation_eq_some {code : BitVec 3} {relation : Relation} :
    stagedRelation code = some relation ↔ relationCode relation = code.toNat := by
  cases relation <;> revert code <;> decide

theorem stagedRelation_eq_none {code : BitVec 3} :
    stagedRelation code = none ↔ ∀ relation, relationCode relation ≠ code.toNat := by
  rw [Option.eq_none_iff_forall_ne_some]
  exact forall_congr' fun relation => not_congr stagedRelation_eq_some

theorem stagedMode_increment {code : BitVec 1} : stagedMode code = .increment ↔ code = 0#1 := by
  revert code
  decide

theorem poolFree_lt_iff {n : Nat} (hn : 1 ≤ n) : s.poolFree < n ↔ 128 < s.poolUsed + n := by
  unfold State.poolFree Config.poolWords
  omega

/-- The station check of a kind that names one station. -/
theorem not_online_iff {n : Nat} : ((stationAt n).any fun i => !s.online i) = true ↔
    (∃ i, stationAddress i = n) ∧ ∀ i, stationAddress i = n → (s.station i).state ≠ .online := by
  cases h : stationAt n with
  | none =>
    have hout := stationAt_eq_none.mp h
    simp only [Option.any_none, Bool.false_eq_true, false_iff, not_and]
    rintro ⟨i, hi⟩
    unfold stationAddress at hi
    omega
  | some j =>
    have hj := stationAt_eq_some.mp h
    simp only [Option.any_some, State.online, Bool.not_eq_true', decide_eq_false_iff_not]
    constructor
    · intro hoff
      refine ⟨⟨j, hj⟩, fun i hi => ?_⟩
      obtain rfl : i = j := Fin.ext (by unfold stationAddress at hi hj; omega)
      exact hoff
    · exact fun h => h.2 j hj

theorem firstFree_requests_none : firstFree s.requests = none ↔ ∀ u, s.request u ≠ none := by
  simp [firstFree_eq_none, State.request]

theorem firstFree_posted_none : firstFree s.posted = none ↔ ∀ p, s.postedEntry p ≠ none := by
  simp [firstFree_eq_none, State.postedEntry]

/-! ### The conditions of the chain -/

theorem refuses_badStation (kind : StagedKind) (hk : s.staging.kind = kindCode kind) :
    Refuses s .badStation ↔
      if kind = .broadcastWrite then s.staging.station.toNat ≠ 15 else stationAt s.staging.station.toNat = none := by
  have hlt := s.staging.station.isLt
  cases kind <;> simp [Refuses, hk, kindCode, stationAt_eq_none] <;> omega

theorem refuses_badCount (kind : StagedKind) (hk : s.staging.kind = kindCode kind) :
    Refuses s .badCount ↔
      s.staging.words = 0 ∨ 16 < s.staging.words ∨ (kind = .modify ∧ s.staging.words ≠ 1) := by
  cases kind <;> simp [Refuses, hk, kindCode, Staging.words]

theorem refuses_badLength (kind : StagedKind) (hk : s.staging.kind = kindCode kind) :
    Refuses s .badLength ↔
      kind.isWrite ∧ (s.staging.overflow ∨ s.staging.data.length ≠ s.staging.words) := by
  cases kind <;> simp [Refuses, hk, kindCode, Staging.words, StagedKind.isWrite]

theorem refuses_range (kind : StagedKind) (hk : s.staging.kind = kindCode kind) :
    Refuses s .range ↔
      stagedMode s.staging.mode = .increment ∧ kind ≠ .modify ∧
        0xFFFF < s.staging.address.toNat + s.staging.words - 1 := by
  cases kind <;> simp [Refuses, hk, kindCode, Staging.words, stagedMode_increment]

theorem refuses_badRelation (kind : StagedKind) (hk : s.staging.kind = kindCode kind) :
    Refuses s .badRelation ↔ kind = .modify ∧ stagedRelation s.staging.relation = none := by
  cases kind <;> simp [Refuses, hk, kindCode, stagedRelation_eq_none]

/-- The station check, where the station is one. -/
theorem refuses_stationNotOnline (kind : StagedKind) (hk : s.staging.kind = kindCode kind)
    (hstation : ¬ Refuses s .badStation) :
    Refuses s .stationNotOnline ↔
      kind ≠ .broadcastWrite ∧ ((stationAt s.staging.station.toNat).any fun i => !s.online i) = true := by
  rw [not_online_iff]
  rw [refuses_badStation kind hk] at hstation
  have hsome : kind ≠ .broadcastWrite → ∃ i, stationAddress i = s.staging.station.toNat := fun h => by
    rw [if_neg h] at hstation
    obtain ⟨i, hi⟩ := Option.ne_none_iff_exists'.mp hstation
    exact ⟨i, stationAt_eq_some.mp hi⟩
  cases kind <;> simp [Refuses, hk, kindCode] at hsome ⊢ <;> exact fun _ => hsome

theorem refuses_tableFull (kind : StagedKind) (hk : s.staging.kind = kindCode kind) :
    Refuses s .tableFull ↔ ¬ kind.isPosted ∧ firstFree s.requests = none := by
  cases kind <;> simp [Refuses, hk, kindCode, StagedKind.isPosted, firstFree_requests_none]

theorem refuses_postedFull (kind : StagedKind) (hk : s.staging.kind = kindCode kind) (hcount : ¬ Refuses s .badCount) :
    Refuses s .postedFull ↔ kind.isPosted ∧ (firstFree s.posted = none ∨ s.poolFree < s.staging.words) := by
  have hwords : 1 ≤ s.staging.words := by
    rw [refuses_badCount kind hk] at hcount
    omega
  rw [poolFree_lt_iff hwords]
  cases kind <;> simp [Refuses, hk, kindCode, StagedKind.isPosted, Staging.words, firstFree_posted_none]

/-! ### The chain -/

open Classical in
/-- The first condition of R9's table that holds, searched for in the table's order. -/
noncomputable def firstRefusal (s : State) : Option ResultCode := checkOrder.find? fun code => Refuses s code

theorem find?_decide_cons {α : Type} (P : α → Prop) [DecidablePred P] (a : α) (l : List α) :
    (a :: l).find? (fun x => P x) = if P a then some a else l.find? fun x => P x := by
  rw [List.find?_cons]
  split <;> simp_all

/-- A condition of the chain, once those before it have been seen to fail. -/
theorem chain_congr {α : Type} {P Q : Prop} {_ : Decidable P} {_ : Decidable Q} {a b c : α} (hPQ : P ↔ Q) (h : ¬ P → b = c) :
    (if P then a else b) = if Q then a else c := by
  by_cases hP : P
  · rw [if_pos hP, if_pos (hPQ.mp hP)]
  · rw [if_neg hP, if_neg (fun hQ => hP (hPQ.mpr hQ)), h hP]

theorem submitRefusal_eq : submitRefusal s = firstRefusal s := by
  unfold firstRefusal checkOrder
  symm
  simp only [find?_decide_cons, List.find?_nil]
  unfold submitRefusal
  dsimp only
  cases hkind : stagedKind s.staging.kind with
  | none => rw [if_pos (show Refuses s .badKind from stagedKind_eq_none.mp hkind)]
  | some kind =>
    have hk := stagedKind_eq_some.mp hkind
    have hnamed : ¬ Refuses s .badKind := fun h => by
      rw [stagedKind_eq_none.mpr h] at hkind
      cases hkind
    rw [if_neg hnamed]
    dsimp only
    refine chain_congr (refuses_badStation kind hk) fun hstation => ?_
    refine chain_congr (refuses_badCount kind hk) fun hcount => ?_
    refine chain_congr (refuses_badLength kind hk) fun _ => ?_
    refine chain_congr (refuses_range kind hk) fun _ => ?_
    refine chain_congr (refuses_badRelation kind hk) fun _ => ?_
    refine chain_congr Iff.rfl fun _ => ?_
    refine chain_congr (refuses_stationNotOnline kind hk hstation) fun _ => ?_
    have htable := refuses_tableFull kind hk
    have hposted := refuses_postedFull kind hk hcount
    by_cases h : kind.isPosted = true <;> simp [htable, hposted, h]

theorem submitRefusal_eq_none : submitRefusal s = none ↔ Accepts s := by
  rw [submitRefusal_eq, firstRefusal, List.find?_eq_none]
  simp [Accepts]

theorem submitRefusal_eq_some {before after : List ResultCode} {code : ResultCode}
    (horder : checkOrder = before ++ code :: after) (hcode : Refuses s code) (hbefore : ∀ c ∈ before, ¬ Refuses s c) :
    submitRefusal s = some code := by
  rw [submitRefusal_eq, firstRefusal, List.find?_eq_some_iff_append]
  exact ⟨by simpa using hcode, before, after, horder, by simpa using hbefore⟩

end Sys2Proof.Proofs
end

section
/-! PROOFS. Each meaning of the host as a chain of elementary effects: requests, commands, registers and the window
unit. -/

namespace Sys2Proof.Proofs

open Sys2Proof.Machine Sys2Proof.Claims

variable {B W Q : Prop} {s t : State}

/-! ### Registers -/

/-- Whatever moves registers alone is one effect. -/
theorem effects_registers
    (h : t =
      { s with
        command := t.command, result := t.result, parameter := t.parameter, submitTag := t.submitTag
        staging := t.staging, dataPosition := t.dataPosition, stationSelect := t.stationSelect, latched := t.latched
        enables := t.enables, access := t.access, dataOut := t.dataOut, windowStatus := t.windowStatus
        holdInput := t.holdInput, resetInput := t.resetInput })
    (hstaging : StagingKept s → StagingKept t) : Effects B W Q s t := by
  rw [h]
  exact .one (.registers s _ _ _ _ _ _ _ _ _ _ _ _ _ _ hstaging)

theorem effects_setResult (c : ResultCode) : Effects B W Q s (s.setResult c) := effects_registers rfl id

theorem effects_latchStation : Effects B W Q s s.latchStation := effects_registers rfl id

theorem effects_latchLink : Effects B W Q s s.latchLink := effects_registers rfl id

theorem effects_setDiscarded : Effects B W Q s s.setDiscarded := effects_registers rfl id

theorem effects_endRead (word : Word) (outcome : WindowOutcome) : Effects B W Q s (s.endRead word outcome) :=
  effects_registers rfl id

theorem effects_access (a : Option HeldAccess) : Effects B W Q s { s with access := a } := effects_registers rfl id

theorem effects_clearStage : Effects B W Q s (clearStage s) := effects_registers rfl fun _ => Nat.zero_le _

theorem effects_accepted (n : Nat) : Effects B W Q s (accepted n s) := effects_registers rfl fun _ => Nat.zero_le _

/-! ### Rows of the tables -/

theorem sameEntry_refl (r : Request) : SameEntry r r := ⟨rfl, rfl, rfl⟩

/-- The rows of the Request Table change, the Completion List stays. -/
theorem effects_rows (h : t = { s with requests := t.requests }) (hrow : ∀ u, RowKept (s.request u) (t.request u))
    (hport : ∀ u, (t.request u).any Request.completedPort = (s.request u).any Request.completedPort) :
    Effects B W Q s t := by
  have hlist : CompletionsExact s →
      CompletionsExact { s with requests := t.requests, completionList := s.completionList } :=
    fun hs => completionsExact_of_rows hs rfl hport
  rw [h]
  exact .one (.rows s t.requests s.completionList hrow hlist)

theorem rowKept_of_same {a b : Option Request} (h : b = a) : RowKept a b := by
  subst h
  cases b with
  | none => exact .free
  | some r => exact .kept ⟨sameEntry_refl r, rfl, rfl, rfl, id, fun _ => id, id, id⟩

/-- One row changes and its work stands as it stood. -/
theorem effects_putRequest {u : Tag} {r r' : Request} (hr : s.request u = some r) (h : SameWork r r')
    (hport : r'.completedPort = r.completedPort) : Effects B W Q s (s.putRequest u (some r')) := by
  refine effects_rows rfl (fun w => ?_) fun w => ?_
  · rw [request_putRequest]
    split
    next he => subst he; rw [hr]; exact .kept h
    next => exact rowKept_of_same rfl
  · rw [request_putRequest]
    split
    next he => subst he; rw [hr]; exact hport
    next => rfl

theorem effects_updateRequest {u : Tag} {f : Request → Request}
    (h : ∀ r, s.request u = some r → SameWork r (f r) ∧ (f r).completedPort = r.completedPort) :
    Effects B W Q s (s.updateRequest u f) := by
  unfold State.updateRequest
  split
  next r hr => exact effects_putRequest hr (h r hr).1 (h r hr).2
  next => exact .refl

theorem postedKept_of_same {a b : Option Posted} (h : b = a) : PostedKept a b := by
  subst h
  cases b with
  | none => exact .free
  | some e => exact .kept ⟨rfl, rfl, rfl, rfl, id, Iff.rfl, id⟩

theorem effects_posteds (h : t = { s with posted := t.posted }) (hrow : ∀ p, PostedKept (s.postedEntry p) (t.postedEntry p)) :
    Effects B W Q s t := by
  rw [h]
  exact .one (.posteds s t.posted hrow)

theorem effects_updatePosted {p : PostedIndex} {f : Posted → Posted} (h : ∀ e, SamePosted e (f e)) :
    Effects B W Q s (s.updatePosted p f) := by
  unfold State.updatePosted
  split
  next e he =>
    refine effects_posteds rfl fun q => ?_
    rw [postedEntry_putPosted]
    split
    next hq => subst hq; rw [he]; exact .kept (h e)
    next => exact postedKept_of_same rfl
  next => exact .refl

theorem effects_stations (h : t = { s with stations := t.stations }) (hrow : ∀ i, SameStanding (s.station i) (t.station i)) :
    Effects B W Q s t := by
  rw [h]
  exact .one (.stations s t.stations hrow)

theorem effects_updateStation {i : StationId} {f : Station → Station} (h : SameStanding (s.station i) (f (s.station i))) :
    Effects B W Q s (s.updateStation i f) := by
  refine effects_stations rfl fun j => ?_
  rw [station_updateStation]
  split
  next hj => subst hj; exact h
  next => exact ⟨rfl, rfl, id⟩

/-- A PARKED entry that stays PARKED with its segment. -/
theorem parked_sameWork {r : Request} {part part' : ParkPart} (hstate : r.state = .parked part)
    (hsegment : part'.segment = part.segment) (cancel abandon : Bool) :
    SameWork r { r with cancelPending := cancel, abandonPending := abandon, state := .parked part' } where
  station := rfl
  order := rfl
  window := rfl
  unfinished := by simp [Request.unfinished, hstate]
  count := rfl
  wordsDone := rfl
  busy _ := by simp [Request.inProgress, hstate]
  carries kind := by cases kind <;> simp [Request.carries, hstate]
  active := nofun
  counts := by simp [Request.countsKept, hstate, hsegment]

theorem completedPort_parked {r : Request} {part part' : ParkPart} (hstate : r.state = .parked part)
    (cancel abandon : Bool) :
    { r with cancelPending := cancel, abandonPending := abandon, state := .parked part' }.completedPort =
      r.completedPort := by
  simp [Request.completedPort, hstate]

/-! ### Closure and stale marking -/

theorem effects_closeOpen : Effects B W Q s (closeOpen s) := by
  refine effects_posteds rfl fun p => ?_
  rw [postedEntry_closeOpen]
  cases he : s.postedEntry p with
  | none => exact .free
  | some e =>
    dsimp only [closedRow]
    split
    next ho => exact .kept ⟨rfl, rfl, rfl, rfl, nofun, by simp [ho], nofun⟩
    next => exact postedKept_of_same rfl

theorem stale_sameWork (r : Request) (w w' : WindowPart) (h : r.origin = .window w) :
    SameWork r { r with origin := .window w' } :=
  { station := rfl, order := rfl, window := by simp [ofWindow, h], unfinished := rfl, count := rfl, wordsDone := rfl
    busy := id, carries := fun _ => id, active := id, counts := id }

theorem effects_markStale (target : Target) : Effects B W Q s (markStale target s) := by
  refine effects_rows rfl (fun u => ?_) fun u => ?_ <;> rw [request_markStale]
  · cases hr : s.request u with
    | none => exact .free
    | some r =>
      dsimp only [staleRow]
      cases ho : r.origin with
      | port => exact rowKept_of_same rfl
      | window w =>
        dsimp only
        split
        · split
          next => exact .kept (stale_sameWork r w _ ho)
          next h => exact .gone (by simpa using h)
        · exact rowKept_of_same rfl
  · cases hr : s.request u with
    | none => rfl
    | some r =>
      dsimp only [staleRow]
      cases ho : r.origin with
      | port => rfl
      | window w =>
        have hport : r.completedPort = false := completedPort_of_window (by simp [ofWindow, ho])
        dsimp only
        split
        · split
          · simp [Request.completedPort, ho]
          · simp [hport]
        · rfl

end Sys2Proof.Proofs
end

section
/-! PROOFS. Acceptance, completion and freeing as chains of elementary effects, and with them SUBMIT, CANCEL, RELEASE,
STATION-FLUSH and the fault records. -/

namespace Sys2Proof.Proofs

open Sys2Proof.Machine Sys2Proof.Claims

variable {B W Q : Prop} {s t : State}

/-! ### Completion and freeing -/

theorem counts_iff {r : Request} : r.countsKept = true ↔
    (1 ≤ r.count ∧ r.count ≤ 16 ∧ r.wordsDone ≤ r.count) ∧ (∀ m, r.kind = .modify m → r.count = 1) ∧
      (r.state = .done .success ∨ r.state = .delivered .success → r.wordsDone = r.count) ∧
      ∀ part, r.state = .parked part → r.wordsDone + part.segment.length ≤ r.count := by
  unfold Request.countsKept
  simp only [Bool.and_eq_true, decide_eq_true_eq, and_assoc]
  refine and_congr Iff.rfl (and_congr Iff.rfl (and_congr Iff.rfl (and_congr ?_ ?_)))
  · cases r.kind <;> simp
  · cases r.state with
    | done status => cases status <;> simp
    | delivered status => cases status <;> simp
    | _ => simp

theorem counts_done {r : Request} {status : Status} (hs : status ≠ .success) (h : r.countsKept = true) :
    { r with state := .done status }.countsKept = true := by
  obtain ⟨hcount, hmodify, -, -⟩ := counts_iff.mp h
  exact counts_iff.mpr ⟨hcount, hmodify, fun h => absurd h (by simpa using hs), nofun⟩

theorem effects_completeRequest {u : Tag} {status : Status} (hs : status ≠ .success)
    (hidle : ∀ r, s.request u = some r → r.unfinished = true → Idles r ∨ s.exchange = none) :
    Effects B W Q s (completeRequest u status s) := by
  cases hr : s.request u with
  | none => simp only [completeRequest, hr]; exact .refl
  | some r =>
    cases hu : r.unfinished with
    | false => rw [completeRequest_finished status fun r' hr' => by cases hr.symm.trans hr'; exact hu]
    | true =>
      rw [completeRequest_eq_completed status hr hu]
      exact .one (.finish s u r r status hr hu (sameEntry_refl r) (hidle r hr hu) fun _ => counts_done hs)

theorem effects_freeRequest {u : Tag} (hwindow : ∀ r, s.request u = some r → ofWindow r = true)
    (hidle : ∀ r, s.request u = some r → r.unfinished = false ∨ s.exchange = none) :
    Effects B W Q s (freeRequest u s) := by
  cases hr : s.request u with
  | none => rw [freeRequest_of_free hr]
  | some r =>
    rw [freeRequest_eq_vacated hr]
    exact .one (.free s u r hr (hwindow r hr) (hidle r hr))

theorem faultsKept_append (f : FaultRecord) (h : FaultsKept s) : FaultsKept (s.appendFault f) := by
  obtain ⟨hlength, hdropped, hempty⟩ := h
  unfold State.appendFault
  split
  next hroom => exact ⟨by simp; omega, hdropped, fun _ => by simp⟩
  next hfull =>
    refine ⟨hlength, Nat.min_le_left .., fun _ hnil => hfull ?_⟩
    have hnil : s.faults = [] := hnil
    rw [hnil]
    decide

/-- A record changes the fault list and the dropped count alone. -/
theorem appendFault_faults (s : State) (f : FaultRecord) :
    s.appendFault f = { s with faults := (s.appendFault f).faults, dropped := (s.appendFault f).dropped } := by
  unfold State.appendFault
  split <;> rfl

theorem effects_appendFault (f : FaultRecord) : Effects B W Q s (s.appendFault f) := by
  have h := faultsKept_append (s := s) f
  rw [appendFault_faults] at h ⊢
  exact .one (.faults s _ _ h)

/-- The fault list and the dropped count once the record of a freed entry is made, if a cause is given (R105). -/
def causeRecorded (s : State) (e : Posted) (cause : Option FaultCause) : State :=
  match cause with
  | none => s
  | some c => s.appendFault (e.faultRecord c)

theorem faultsKept_causeRecorded (e : Posted) (cause : Option FaultCause) (h : FaultsKept s) :
    FaultsKept (causeRecorded s e cause) := by
  cases cause with
  | none => exact h
  | some c => exact faultsKept_append _ h

/-- What a record does depends on the fault list and the dropped count alone. -/
theorem appendFault_congr (f : FaultRecord) (hf : t.faults = s.faults) (hd : t.dropped = s.dropped) :
    t.appendFault f = { t with faults := (s.appendFault f).faults, dropped := (s.appendFault f).dropped } := by
  unfold State.appendFault
  rw [hf, hd]
  split
  · rfl
  · rfl

theorem freePosted_eq_retired {p : PostedIndex} {e : Posted} (he : s.postedEntry p = some e) (cause : Option FaultCause) :
    freePosted p cause s = retired s p e (causeRecorded s e cause).faults (causeRecorded s e cause).dropped := by
  simp only [freePosted, he, dequeuePosted_putPosted]
  cases cause with
  | none => rfl
  | some c => exact appendFault_congr (s := s) _ rfl rfl

/-- A posted entry freed as soon as its row has changed. -/
theorem freePosted_putPosted (p : PostedIndex) (e : Posted) (cause : Option FaultCause) :
    freePosted p cause (s.putPosted p (some e)) =
      retired s p e (causeRecorded s e cause).faults (causeRecorded s e cause).dropped := by
  rw [freePosted_eq_retired (e := e) (by simp)]
  have hfaults : (causeRecorded (s.putPosted p (some e)) e cause).faults = (causeRecorded s e cause).faults ∧
      (causeRecorded (s.putPosted p (some e)) e cause).dropped = (causeRecorded s e cause).dropped := by
    cases cause with
    | none => exact ⟨rfl, rfl⟩
    | some c =>
      show ((s.putPosted p (some e)).appendFault _).faults = _ ∧ ((s.putPosted p (some e)).appendFault _).dropped = _
      rw [appendFault_congr (s := s) (t := s.putPosted p (some e)) _ rfl rfl]
      exact ⟨rfl, rfl⟩
  rw [hfaults.1, hfaults.2]
  simp [retired, State.putPosted, stationsWithout, broadcastsWithout, State.station]

theorem retired_congr {p : PostedIndex} {e e' : Posted} (h : e'.target = e.target) (fs : List FaultRecord) (d : Nat) :
    retired s p e' fs d = retired s p e fs d := by
  simp [retired, h]

theorem effects_retired {p : PostedIndex} {e e' : Posted} (he : s.postedEntry p = some e) (htarget : e'.target = e.target)
    (hidle : e.state ≠ .active ∨ s.exchange = none) (cause : Option FaultCause) :
    Effects B W Q s (retired s p e' (causeRecorded s e' cause).faults (causeRecorded s e' cause).dropped) := by
  have hkept : FaultsKept s →
      FaultsKept { s with faults := (causeRecorded s e' cause).faults, dropped := (causeRecorded s e' cause).dropped } :=
    fun h => faultsKept_causeRecorded e' cause h
  rw [retired_congr htarget]
  exact .one (.retire s p e _ _ he hidle hkept)

theorem effects_freePosted {p : PostedIndex} {cause : Option FaultCause}
    (hidle : ∀ e, s.postedEntry p = some e → e.state ≠ .active ∨ s.exchange = none) :
    Effects B W Q s (freePosted p cause s) := by
  cases he : s.postedEntry p with
  | none => rw [freePosted_of_free he]
  | some e =>
    rw [freePosted_eq_retired he]
    exact effects_retired he rfl (hidle e he) cause

/-! ### Acceptance -/

theorem effects_acceptDeferred {r : Request} (hqueued : r.state = .queued) (hcounts : r.countsKept = true)
    (hport : r.origin = .port) (honline : s.online r.station = true) : Effects B W Q s (acceptDeferred r s) := by
  unfold acceptDeferred
  split
  next => exact .refl
  next u hu =>
    refine (Effects.one (.accept s u r (firstFree_eq_some hu).1 hqueued hcounts (fun _ h => ?_) honline)).trans
      (effects_accepted _)
    simp [ofWindow, hport] at h

theorem effects_acceptPosted {p : PostedIndex} {e : Posted} (hfree : s.postedEntry p = none)
    (hstate : e.state = .queued ∨ e.state = .opened ∧ ∀ q f, s.postedEntry q = some f → f.state ≠ .opened)
    (hcounts : e.countsKept = true) (hpool : e.count ≤ s.poolFree)
    (honline : ∀ i, e.target = .station i → s.online i = true) : Effects B W Q s (acceptPosted p e s) := by
  rw [acceptPosted_eq_joined]
  exact .one (.acceptPosted s p e hfree hstate hcounts hpool honline)

/-! ### SUBMIT -/

theorem accepts_not (h : Accepts s) (code : ResultCode) (hc : code ∈ checkOrder) : ¬ Refuses s code := h code hc

theorem accepts_words (h : Accepts s) : 1 ≤ s.staging.words ∧ s.staging.words ≤ 16 := by
  have := accepts_not h .badCount (by decide)
  simp only [Refuses, not_or] at this
  exact ⟨Nat.one_le_iff_ne_zero.mpr this.1, Nat.le_of_not_lt this.2.1⟩

theorem accepts_modify_words (h : Accepts s) (hk : s.staging.kind = 3#4) : s.staging.words = 1 := by
  have := accepts_not h .badCount (by decide)
  simp only [Refuses, not_or, not_and, not_not] at this
  exact this.2.2 hk

theorem accepts_data (h : Accepts s) (hk : s.staging.kind = 2#4 ∨ s.staging.kind = 4#4 ∨ s.staging.kind = 5#4) :
    s.staging.data.length = s.staging.words := by
  have := accepts_not h .badLength (by decide)
  simp only [Refuses, not_and, not_or, not_not] at this
  exact (this hk).2

theorem accepts_online (h : Accepts s) (hk : s.staging.kind ≠ 5#4) {i : StationId}
    (hi : stationAt s.staging.station.toNat = some i) : s.online i = true := by
  have := accepts_not h .stationNotOnline (by decide)
  simp only [Refuses, not_and, not_forall, not_not] at this
  obtain ⟨j, hj, hon⟩ := this hk
  obtain rfl : i = j := Fin.ext (by have := stationAt_eq_some.mp hi; unfold stationAddress at hj this; omega)
  simpa [State.online] using hon

theorem accepts_pool (h : Accepts s) (hk : 4 ≤ s.staging.kind.toNat) : s.staging.words ≤ s.poolFree := by
  have := accepts_not h .postedFull (by decide)
  simp only [Refuses, not_and, not_or] at this
  have := (this hk).2
  unfold State.poolFree Config.poolWords Staging.words
  omega

theorem counts_request (h : Accepts s) (kind : RequestKind) (i : StationId) (data : List Word)
    (hmodify : ∀ m, kind = .modify m → s.staging.words = 1) :
    (s.staging.request kind i data).countsKept = true :=
  counts_iff.mpr
    ⟨⟨(accepts_words h).1, (accepts_words h).2, Nat.zero_le _⟩, hmodify,
      by simp [Staging.request], nofun⟩

theorem effects_acceptWrite (h : Accepts s) (hk : s.staging.kind = 4#4 ∨ s.staging.kind = 5#4) {target : Target}
    (honline : ∀ i, target = .station i → s.online i = true) : Effects B W Q s (acceptWrite target s) := by
  unfold acceptWrite
  split
  next => exact .refl
  next p hp =>
    have hlength : (s.staging.posted target).count = s.staging.words := accepts_data h (.inr hk)
    have hposted : 4 ≤ s.staging.kind.toNat := by rcases hk with hk | hk <;> simp [hk]
    refine (effects_acceptPosted (firstFree_eq_some hp).1 (.inl rfl) ?_ ?_ honline).trans
      ((effects_accepted _).trans (effects_markStale _))
    · exact posted_counts_iff.mpr ⟨hlength ▸ (accepts_words h).1, hlength ▸ (accepts_words h).2, Nat.zero_le _⟩
    · exact hlength ▸ accepts_pool h hposted

theorem effects_acceptStaged (h : Accepts s) : Effects B W Q s (acceptStaged s) := by
  unfold acceptStaged
  dsimp only
  split
  next hk =>
    exact effects_acceptWrite h (.inr (stagedKind_eq_some.mp hk)) nofun
  next i hk hi =>
    have hk := stagedKind_eq_some.mp hk
    refine effects_acceptWrite h (.inl hk) fun j hj => ?_
    cases hj
    exact accepts_online h (by rw [hk]; decide) hi
  next i hk hi =>
    have hk := stagedKind_eq_some.mp hk
    exact effects_acceptDeferred rfl (counts_request h _ _ _ (fun _ => RequestKind.noConfusion)) rfl (accepts_online h (by rw [hk]; decide) hi)
  next i hk hi =>
    have hk := stagedKind_eq_some.mp hk
    exact (effects_acceptDeferred rfl (counts_request h _ _ _ (fun _ => RequestKind.noConfusion)) rfl
      (accepts_online h (by rw [hk]; decide) hi)).trans (effects_markStale _)
  next i hk hi =>
    have hk := stagedKind_eq_some.mp hk
    split
    · exact (effects_acceptDeferred rfl (counts_request h _ _ _ fun _ _ => accepts_modify_words h hk) rfl
        (accepts_online h (by rw [hk]; decide) hi)).trans (effects_markStale _)
    · exact .refl
  next => exact .refl

theorem effects_submit : Effects B W Q s (submit s) := by
  unfold submit
  refine effects_closeOpen.trans ?_
  dsimp only
  split
  next => exact effects_setResult _
  next h => exact effects_acceptStaged (submitRefusal_eq_none.mp h)

/-! ### CANCEL and RELEASE -/

theorem effects_cancelEntry (u : Tag) : Effects B W Q s (cancelEntry u s) := by
  unfold cancelEntry
  split
  next => exact .refl
  next r hr =>
    split
    next hstate =>
      refine effects_completeRequest nofun fun r' hr' _ => ?_
      cases hr.symm.trans hr'
      exact .inl (.inl hstate)
    next n hstate =>
      refine effects_completeRequest nofun fun r' hr' _ => ?_
      cases hr.symm.trans hr'
      exact .inl (.inr ⟨n, hstate⟩)
    next hstate =>
      refine effects_putRequest hr ?_ rfl
      exact { station := rfl, order := rfl, window := rfl, unfinished := rfl, count := rfl, wordsDone := rfl
              busy := id, carries := fun _ => id, active := id, counts := id }
    next part hstate =>
      exact effects_putRequest hr (parked_sameWork hstate (by rfl) true true) (completedPort_parked hstate true true)
    next => exact .refl
    next => exact .refl

theorem effects_cancel : Effects B W Q s (cancel s) := by
  unfold cancel
  split
  next => exact effects_setResult _
  next u _ =>
    split
    next => exact effects_setResult _
    next r _ =>
      split
      · exact effects_setResult _
      · cases r.state with
        | done _ | delivered _ => exact effects_setResult _
        | queued | active | waiting _ | parked _ => exact (effects_cancelEntry u).trans (effects_setResult _)

theorem effects_release : Effects B W Q s (release s) := by
  unfold release
  split
  next => exact effects_setResult _
  next u _ =>
    split
    next => exact effects_setResult _
    next r hr =>
      split
      next status ho hstate =>
        refine (effects_rows (t := s.putRequest u none) rfl (fun w => ?_) fun w => ?_).trans (effects_setResult _) <;>
          rw [request_putRequest]
        · split
          next hw => subst hw; rw [hr]; exact .gone (by simp [Request.unfinished, hstate])
          next => exact rowKept_of_same rfl
        · split
          next hw => subst hw; rw [hr]; simp [Request.completedPort, ho, hstate]
          next => rfl
      next => exact effects_setResult _

/-! ### Station commands -/

theorem effects_withStation {f : StationId → State → State} (h : ∀ i, Effects B W Q s (f i s)) :
    Effects B W Q s (withStation f s) := by
  unfold withStation
  split
  next => exact effects_setResult _
  next i _ => exact h i

theorem effects_stationHold : Effects B W Q s (stationHold s) :=
  effects_withStation fun _ => (effects_updateStation ⟨rfl, rfl, id⟩).trans (effects_setResult _)

theorem effects_stationResume : Effects B W Q s (stationResume s) :=
  effects_withStation fun _ => (effects_updateStation ⟨rfl, rfl, id⟩).trans (effects_setResult _)

theorem effects_flushPosted (p : PostedIndex) : Effects B W Q s (flushPosted p s) := by
  unfold flushPosted
  split
  next => exact .refl
  next e he =>
    split
    next =>
      refine effects_posteds rfl fun q => ?_
      rw [postedEntry_putPosted]
      split
      next hq => subst hq; rw [he]; exact .kept ⟨rfl, rfl, rfl, rfl, id, Iff.rfl, id⟩
      next => exact postedKept_of_same rfl
    next hactive =>
      refine effects_freePosted fun e' he' => ?_
      cases he.symm.trans he'
      exact .inl hactive

theorem effects_flushMember (s : State) (x : EntryRef) : Effects B W Q s (flushMember s x) := by
  cases x with
  | request u => exact effects_cancelEntry u
  | posted p => exact effects_flushPosted p

theorem effects_stationFlush : Effects B W Q s (stationFlush s) :=
  effects_withStation fun _ => (Effects.foldl effects_flushMember _ s).trans (effects_setResult _)

end Sys2Proof.Proofs
end

section
/-! PROOFS. The register writes, the window unit, the timers and the events on the pair as chains of elementary
effects. -/

namespace Sys2Proof.Proofs

open Sys2Proof.Machine Sys2Proof.Claims

variable {B W Q : Prop} {s t : State}

/-! ### Register writes -/

theorem effects_settings {g : Settings} (h : SettingsInRange s.settings → SettingsInRange g) :
    Effects B W Q s { s with settings := g } := .one (.settings s g h)

theorem effects_stageDataWrite (v : Word) : Effects B W Q s (stageDataWrite v s) := by
  unfold stageDataWrite
  split
  next h => exact effects_registers rfl fun _ => by simpa [StagingKept] using h
  next => exact effects_registers rfl id

theorem effects_windowStationWrite (v : Word) : Effects B W Q s (windowStationWrite v s) := by
  unfold windowStationWrite
  split
  next => exact .refl
  next i _ =>
    exact (effects_settings (g := { s.settings with windowStation := i }) id).trans effects_closeOpen

theorem effects_timebaseWrite (v : Word) : Effects B W Q s (timebaseWrite v s) := by
  unfold timebaseWrite
  dsimp only
  split
  next h =>
    refine effects_settings fun hs => ?_
    obtain ⟨-, -, hrest⟩ := hs
    exact ⟨h.2.1, h.2.2, hrest⟩
  next => exact .refl

theorem offered_cases {width : Nat} (inRange : BitVec width → Bool) (kept value : BitVec width) :
    offered inRange kept value = kept ∨ inRange (offered inRange kept value) = true := by
  unfold offered
  split
  next h => exact .inr h
  next => exact .inl rfl

theorem offered_pos {width : Nat} {kept : BitVec width} (value : BitVec width) (h : 1 ≤ kept.toNat) :
    1 ≤ (offered nonzero kept value).toNat := by
  rcases offered_cases nonzero kept value with h' | h'
  · rwa [h']
  · simp only [nonzero, bne_iff_ne, ne_eq] at h'
    exact Nat.one_le_iff_ne_zero.mpr fun h0 => h' (BitVec.eq_of_toNat_eq (by simpa using h0))

theorem offered_four {kept : Byte} (value : Byte) (h : 4 ≤ kept.toNat) :
    4 ≤ (offered (fun x : Byte => 4 ≤ x.toNat) kept value).toNat := by
  rcases offered_cases (fun x : Byte => 4 ≤ x.toNat) kept value with h' | h'
  · rwa [h']
  · simpa using h'

theorem effects_stage (f : Staging → Staging) (h : (f s.staging).data = s.staging.data) : Effects B W Q s (s.stage f) :=
  effects_registers rfl fun hs => by simpa [StagingKept, State.stage, h] using hs

theorem effects_configure (f : Settings → Settings) (h : SettingsInRange s.settings → SettingsInRange (f s.settings)) :
    Effects B W Q s (s.configure f) := effects_settings h

theorem effects_plainWrite (location : BitVec 6) (v : Word) : Effects B W Q s (plainWrite location v s) := by
  unfold plainWrite
  split
  next => exact effects_registers rfl id
  next => exact effects_stage _ rfl
  next => exact effects_stage _ rfl
  next => exact effects_stage _ rfl
  next => exact effects_stage _ rfl
  next => exact effects_stage _ rfl
  next => exact effects_stage _ rfl
  next => exact effects_stage _ rfl
  next =>
    unfold stationSelectWrite
    split
    · exact .refl
    · exact effects_registers rfl id
  next => exact effects_configure _ fun ⟨h1, h2, h3, h4⟩ => ⟨h1, h2, offered_four _ h3, h4⟩
  next => exact effects_configure _ fun ⟨h1, h2, h3, h4, h5⟩ => ⟨h1, h2, h3, offered_pos _ h4, h5⟩
  next =>
    exact effects_configure _ fun ⟨h1, h2, h3, h4, h5, h6, h7⟩ =>
      ⟨h1, h2, h3, h4, offered_pos _ h5, offered_pos _ h6, h7⟩
  next =>
    exact effects_configure _ fun ⟨h1, h2, h3, h4, h5, h6, h7, h8, h9⟩ =>
      ⟨h1, h2, h3, h4, h5, h6, offered_pos _ h7, offered_pos _ h8, h9⟩
  next =>
    exact effects_configure _ fun ⟨h1, h2, h3, h4, h5, h6, h7, h8, h9⟩ =>
      ⟨h1, h2, h3, h4, h5, h6, h7, h8, offered_pos _ h9⟩
  next => exact effects_configure _ id
  next => exact effects_configure _ id
  next => exact .refl

/-! ### Aperture reads -/

theorem effects_hit {u : Tag} {r : Request} {w : WindowPart} (address : Word)
    (hr : s.request u = some r) (ho : r.origin = .window w) (hstate : r.unfinished = false) :
    Effects B W Q s (hit u r w address s) := by
  unfold hit
  dsimp only
  split
  · refine (effects_endRead _ _).trans (effects_freeRequest (fun r' hr' => ?_) fun r' hr' => ?_) <;>
      cases hr.symm.trans hr'
    · simp [ofWindow, ho]
    · exact .inl hstate
  · exact (effects_endRead _ _).trans (effects_putRequest hr (stale_sameWork r w _ ho) (by
      simp [Request.completedPort, ho]))

theorem effects_errorHit {u : Tag} {r : Request} {w : WindowPart} (status : Status)
    (hr : s.request u = some r) (ho : r.origin = .window w) (hstate : r.unfinished = false) :
    Effects B W Q s (errorHit u status s) := by
  refine (effects_endRead _ _).trans (effects_freeRequest (fun r' hr' => ?_) fun r' hr' => ?_) <;>
    cases hr.symm.trans hr'
  · simp [ofWindow, ho]
  · exact .inl hstate

theorem effects_answer {u : Tag} {r : Request} {w : WindowPart} (status : Status) (address : Word)
    (hr : s.request u = some r) (ho : r.origin = .window w) (hstate : r.unfinished = false) :
    Effects B W Q s (answer u r w status address s) := by
  unfold answer
  split
  · exact effects_hit address hr ho hstate
  · exact effects_errorHit status hr ho hstate

theorem effects_beginReadHold {u : Tag} {r : Request} {w : WindowPart} (address : Word) (hr : s.request u = some r)
    (ho : r.origin = .window w) : Effects B W Q s (beginReadHold u r w address s) :=
  (effects_putRequest hr (stale_sameWork r w _ ho) (by simp [Request.completedPort, ho])).trans (effects_access _)

theorem counts_windowRequest (g : Settings) (offset : BitVec 4) : (windowRequest g offset).countsKept = true := by
  have hlt := offset.isLt
  have hcount : 1 ≤ (windowRequest g offset).count ∧ (windowRequest g offset).count ≤ 16 := by
    simp only [windowRequest]
    split <;> omega
  exact counts_iff.mpr
    ⟨⟨hcount.1, hcount.2, Nat.zero_le _⟩, (fun _ => RequestKind.noConfusion), by simp [windowRequest], nofun⟩

theorem effects_createWindow (offset : BitVec 4) (honline : s.online s.settings.windowStation = true)
    (hquota : Q → s.windowEntries < Config.windowQuota) : Effects B W Q s (createWindow offset s) := by
  unfold createWindow
  split
  next => exact effects_endRead _ _
  next u hu =>
    exact (Effects.one (.accept s u _ (firstFree_eq_some hu).1 rfl (counts_windowRequest _ _) (fun hQ _ => hquota hQ)
      honline)).trans (effects_access _)

/-! ### The order of acceptance of a table's rows -/

/-- The indices of the rows that are there, earliest accepted first. -/
def inOrder {α : Type} (order : α → Nat) (row : Fin 16 → Option α) : List (Fin 16) :=
  byOrder ((List.finRange 16).filterMap fun i => (row i).map fun r => (order r, i))

section InOrder

variable {α : Type} {order : α → Nat} {row : Fin 16 → Option α}

theorem mem_inOrder {i : Fin 16} : i ∈ inOrder order row ↔ ∃ r, row i = some r := by
  unfold inOrder
  rw [(byOrder_perm _).mem_iff, List.map_filterMap, List.mem_filterMap]
  constructor
  · rintro ⟨j, -, hj⟩
    rw [Option.map_map, Option.map_eq_some_iff] at hj
    obtain ⟨r, hr, rfl⟩ := hj
    exact ⟨r, hr⟩
  · rintro ⟨r, hr⟩
    exact ⟨i, List.mem_finRange i, by simp [hr]⟩

theorem nodup_inOrder : (inOrder order row).Nodup := by
  unfold inOrder
  rw [(byOrder_perm _).nodup_iff, List.map_filterMap]
  refine (List.nodup_finRange 16).filterMap fun i j k hi hj => ?_
  simp only [Option.map_map, Option.mem_def, Option.map_eq_some_iff] at hi hj
  obtain ⟨_, -, hi⟩ := hi
  obtain ⟨_, -, hj⟩ := hj
  exact hi.trans hj.symm

theorem sorted_inOrder :
    (inOrder order row).Pairwise fun i j => ∀ q r, row i = some q → row j = some r → order q ≤ order r := by
  obtain ⟨l, hperm, heq, hsorted⟩ :=
    byOrder_sorted ((List.finRange 16).filterMap fun i => (row i).map fun r => (order r, i))
  have hplace : ∀ a ∈ l, ∀ r, row a.2 = some r → a.1 = order r := fun a ha r hr => by
    obtain ⟨i, -, hi⟩ := List.mem_filterMap.mp (hperm.mem_iff.mp ha)
    obtain ⟨q, hq, rfl⟩ := Option.map_eq_some_iff.mp hi
    cases hq.symm.trans hr
    rfl
  unfold inOrder
  rw [heq, List.pairwise_map]
  refine hsorted.imp_of_mem fun {a b} ha hb hab q r hq hr => ?_
  rw [← hplace a ha q hq, ← hplace b hb r hr]
  exact hab

end InOrder

theorem requestsWhere_eq (s : State) (test : Request → Bool) :
    s.requestsWhere test = inOrder Request.order fun u => (s.request u).filter test := by
  unfold State.requestsWhere inOrder
  congr 2
  funext u
  dsimp only
  cases s.request u with
  | none => rfl
  | some r => cases h : test r <;> simp [h]

/-- A tag the search for a test finds stands for an entry that passes it. -/
theorem requestsWhere_mem {test : Request → Bool} {u : Tag} :
    u ∈ s.requestsWhere test ↔ ∃ r, s.request u = some r ∧ test r = true := by
  rw [requestsWhere_eq, mem_inOrder]
  simp [Option.filter_eq_some_iff]

theorem reclaimable_iff {r : Request} : r.reclaimable = true ↔
    (∃ w, r.origin = .window w) ∧ ∃ status, r.state = .done status := by
  unfold Request.reclaimable
  cases r.origin <;> cases r.state <;> simp

theorem reclaimTarget_some {u : Tag} (h : s.reclaimTarget = some u) :
    ∃ r, s.request u = some r ∧ r.reclaimable = true := requestsWhere_mem.mp (List.mem_of_mem_head? h)

end Sys2Proof.Proofs
end

section
/-! PROOFS. Misses, aperture writes, what ends a hold, the timers and the events on the pair as chains of elementary
effects. -/

namespace Sys2Proof.Proofs

open Sys2Proof.Machine Sys2Proof.Claims

variable {B W Q : Prop} {s t : State}

/-! ### Misses -/

theorem windowEntries_freeRequest {u : Tag} {r : Request} (hr : s.request u = some r) (hw : ofWindow r = true) :
    (freeRequest u s).windowEntries + 1 = s.windowEntries := by
  have := windowEntries_of_row (s := s) (t := freeRequest u s) (u := u) (row := none) fun w => by
    rw [freeRequest_eq_vacated hr, request_vacated]
  simpa [hr, hw] using this

theorem ofWindow_of_reclaimable {r : Request} (h : r.reclaimable = true) : ofWindow r = true ∧ r.unfinished = false := by
  obtain ⟨⟨w, ho⟩, status, hstate⟩ := reclaimable_iff.mp h
  exact ⟨by simp [ofWindow, ho], by simp [Request.unfinished, hstate]⟩

theorem effects_miss (hQ : Q → WindowQuotaKept s) (offset : BitVec 4) : Effects B W Q s (miss offset s) := by
  unfold miss
  split
  next => exact effects_endRead _ _
  next =>
    split
    next => exact effects_endRead _ _
    next honline =>
      have honline : s.online s.settings.windowStation = true := by simpa using honline
      split
      next hneed =>
        split
        next => exact effects_endRead _ _
        next u hu =>
          obtain ⟨r, hr, htest⟩ := reclaimTarget_some hu
          obtain ⟨hwindow, hfinished⟩ := ofWindow_of_reclaimable htest
          have hfree : Effects B W Q s (freeRequest u s) :=
            effects_freeRequest (fun r' hr' => by cases hr.symm.trans hr'; exact hwindow)
              fun r' hr' => by cases hr.symm.trans hr'; exact .inl hfinished
          have hstate := hfree.standingKept.state
          refine (hfree.trans effects_setDiscarded).trans (effects_createWindow offset ?_ fun hq => ?_)
          · have hsettings : (freeRequest u s).setDiscarded.settings = s.settings := by
              rw [freeRequest_eq_vacated hr]; rfl
            rw [hsettings]
            show (freeRequest u s).online _ = true
            rw [State.online, hstate]
            exact honline
          · have hcount := windowEntries_freeRequest hr hwindow
            have hkept : s.windowEntries ≤ Config.windowQuota := hQ hq
            show (freeRequest u s).windowEntries < Config.windowQuota
            omega
      next hneed =>
        refine effects_createWindow offset honline fun _ => ?_
        simp only [State.needsReclaim, Bool.or_eq_true, not_or, decide_eq_true_eq] at hneed
        omega

theorem effects_apertureRead (hQ : Q → WindowQuotaKept s) (offset : BitVec 4) :
    Effects B W Q s (apertureRead offset s) := by
  unfold apertureRead
  refine effects_closeOpen.trans ?_
  have hQ : Q → WindowQuotaKept (closeOpen s) := hQ
  generalize closeOpen s = s at hQ ⊢
  dsimp only
  split
  next => exact effects_miss hQ offset
  next u hu =>
    obtain ⟨r, hr, -⟩ := requestsWhere_mem.mp (List.mem_of_mem_head? hu)
    rw [hr]
    dsimp only
    cases ho : r.origin with
    | port => exact .refl
    | window w =>
      dsimp only
      cases hstate : r.state with
      | done status | delivered status => exact effects_answer status _ hr ho (by simp [Request.unfinished, hstate])
      | queued | active | waiting _ | parked _ => exact effects_beginReadHold _ hr ho

/-! ### Aperture writes -/

theorem effects_dropWrite (address : Word) : Effects B W Q s (dropWrite address s) :=
  (effects_appendFault _).trans (effects_registers rfl id)

theorem effects_openEntryFor (address value : Word) (honline : s.online s.settings.windowStation = true)
    (hpool : 1 ≤ s.poolFree)
    (hopen : ∀ p e, s.postedEntry p = some e → e.state ≠ .opened) :
    Effects B W Q s (openEntryFor address value s) := by
  unfold openEntryFor
  split
  next => exact .refl
  next p hp =>
    refine (effects_acceptPosted (firstFree_eq_some hp).1 (.inr ⟨rfl, hopen⟩) ?_ ?_ fun i hi => ?_).trans
      (effects_markStale _)
    · exact posted_counts_iff.mpr ⟨by simp [windowPosted, Posted.count], by simp [windowPosted, Posted.count], Nat.zero_le _⟩
    · simpa [windowPosted, Posted.count] using hpool
    · cases hi
      exact honline

/-- After the closure no entry is OPEN (R156). -/
theorem closeOpen_not_opened (p : PostedIndex) (e : Posted) (h : (closeOpen s).postedEntry p = some e) :
    e.state ≠ .opened := by
  rw [postedEntry_closeOpen] at h
  cases he : s.postedEntry p with
  | none => rw [he] at h; cases h
  | some e' =>
    rw [he, closedRow] at h
    split at h
    next => cases h; nofun
    next hne => cases h; exact hne

theorem poolFree_closeOpen : (closeOpen s).poolFree = s.poolFree := by simp [State.poolFree]

theorem postedSpace_pool (h : s.postedSpace = true) : 1 ≤ s.poolFree := by
  simp only [State.postedSpace, Bool.and_eq_true, decide_eq_true_eq] at h
  exact h.2

theorem effects_openOrHold (address value : Word) (honline : s.online s.settings.windowStation = true) :
    Effects B W Q s (openOrHold address value s) := by
  unfold openOrHold
  refine effects_closeOpen.trans ?_
  dsimp only
  split
  next hspace => exact effects_openEntryFor address value honline (postedSpace_pool hspace) closeOpen_not_opened
  next => exact effects_access _

theorem openEntry_some {p : PostedIndex} (h : s.openEntry = some p) {e : Posted} (he : s.postedEntry p = some e) :
    e.state = .opened := by
  simpa [he] using List.find?_some h

theorem effects_apertureWrite (offset : BitVec 4) (value : Word) : Effects B W Q s (apertureWrite offset value s) := by
  unfold apertureWrite
  dsimp only
  split
  next => exact effects_dropWrite _
  next hup =>
    have honline : s.online s.settings.windowStation = true := by simpa using (not_or.mp hup).2
    split
    next => exact effects_openOrHold _ _ honline
    next p hp =>
      split
      next => exact effects_openOrHold _ _ honline
      next e he =>
        split
        next hext =>
          simp only [State.extends, Bool.and_eq_true, decide_eq_true_eq] at hext
          exact (Effects.one (.append s p e value he (openEntry_some hp he) hext.1.2 hext.2)).trans (effects_markStale _)
        next => exact effects_openOrHold _ _ honline

/-! ### What ends a hold -/

theorem effects_answerHeldRead : Effects B W Q s (answerHeldRead s) := by
  unfold answerHeldRead
  split
  next u address left hacc =>
    split
    next r hr =>
      split
      next w status ho hstate =>
        exact (effects_access none).trans
          (effects_answer (s := { s with access := none }) status address hr ho (by simp [Request.unfinished, hstate]))
      next => exact .refl
    next => exact .refl
  next => exact .refl
  next => exact .refl

theorem effects_dropHeldWrite : Effects B W Q s (dropHeldWrite s) := by
  unfold dropHeldWrite
  split
  next =>
    split
    · exact .refl
    · exact (effects_access none).trans (effects_dropWrite _)
  next => exact .refl
  next => exact .refl

theorem effects_giveHeldWriteSpace : Effects B W Q s (giveHeldWriteSpace s) := by
  unfold giveHeldWriteSpace
  split
  next =>
    split
    next hspace =>
      split
      next honline =>
        have hpool : 1 ≤ (closeOpen { s with access := none }).poolFree := by
          rw [poolFree_closeOpen]
          exact postedSpace_pool (s := s) hspace
        refine (effects_access none).trans ?_
        exact effects_closeOpen.trans (effects_openEntryFor _ _ honline hpool closeOpen_not_opened)
      next => exact (effects_access none).trans (effects_dropWrite _)
    next => exact .refl
  next => exact .refl
  next => exact .refl

theorem effects_settleHeld : Effects B W Q s (settleHeld s) :=
  (effects_answerHeldRead.trans effects_dropHeldWrite).trans effects_giveHeldWriteSpace

theorem effects_expireReadHold : Effects B W Q s (expireReadHold s) := by
  unfold expireReadHold
  split
  next =>
    refine Relation.ReflTransGen.trans (effects_updateRequest fun r hr => ?_) (effects_registers rfl id)
    cases ho : r.origin with
    | window w => exact ⟨stale_sameWork r w _ ho, by simp [Request.completedPort, ho]⟩
    | port => exact ⟨⟨sameEntry_refl r, rfl, rfl, rfl, id, fun _ => id, id, id⟩, rfl⟩
  next => exact .refl
  next => exact .refl

theorem effects_expireWriteHold : Effects B W Q s (expireWriteHold s) := by
  unfold expireWriteHold
  split
  next => exact (effects_access none).trans (effects_dropWrite _)
  next => exact .refl
  next => exact .refl

end Sys2Proof.Proofs
end

section
/-! PROOFS. The timers, the tick and the events on the pair as chains of elementary effects. -/

namespace Sys2Proof.Proofs

open Sys2Proof.Machine Sys2Proof.Claims

variable {B W Q : Prop} {s t : State}

/-! ### Expiries -/

theorem sameWork_refl (r : Request) : SameWork r r := ⟨sameEntry_refl r, rfl, rfl, rfl, id, fun _ => id, id, id⟩

theorem backoffExpired_sameWork (r : Request) : SameWork r r.backoffExpired := by
  unfold Request.backoffExpired
  cases hstate : r.state with
  | waiting n =>
    exact
      { station := rfl, order := rfl, window := rfl, count := rfl, wordsDone := rfl
        unfinished := by simp [Request.unfinished, hstate]
        busy := nofun
        carries := fun kind => by cases kind <;> simp [Request.carries, hstate]
        active := nofun
        counts := by simp [Request.countsKept, hstate] }
  | queued | active | parked _ | done _ | delivered _ => exact sameWork_refl r

theorem backoffExpired_completedPort (r : Request) : r.backoffExpired.completedPort = r.completedPort := by
  unfold Request.backoffExpired
  cases hstate : r.state with
  | waiting n => simp [Request.completedPort, hstate]
  | queued | active | parked _ | done _ | delivered _ => rfl

theorem posted_backoffExpired_same (e : Posted) : SamePosted e e.backoffExpired := by
  unfold Posted.backoffExpired
  cases hstate : e.state with
  | waiting n => exact ⟨rfl, rfl, rfl, rfl, nofun, by simp [hstate], nofun⟩
  | opened | queued | active => exact ⟨rfl, rfl, rfl, rfl, id, Iff.rfl, id⟩

/-- A change of a row that a PARKED entry makes staying PARKED with its segment, and no other entry. -/
theorem collectExpired_sameWork (r : Request) :
    SameWork r r.collectExpired ∧ r.collectExpired.completedPort = r.completedPort := by
  unfold Request.collectExpired
  cases hstate : r.state with
  | parked part =>
    dsimp only
    cases part.collect with
    | running n => exact ⟨parked_sameWork hstate (by rfl) _ _, completedPort_parked hstate _ _⟩
    | stopped | expired => exact ⟨sameWork_refl r, rfl⟩
  | queued | active | waiting _ | done _ | delivered _ => exact ⟨sameWork_refl r, rfl⟩

theorem parkExpired_sameWork (r : Request) :
    SameWork r r.parkExpired ∧ r.parkExpired.completedPort = r.completedPort := by
  unfold Request.parkExpired
  cases hstate : r.state with
  | parked part =>
    dsimp only
    cases part.park with
    | some n => exact ⟨parked_sameWork hstate (by rfl) _ _, completedPort_parked hstate _ _⟩
    | none => exact ⟨sameWork_refl r, rfl⟩
  | queued | active | waiting _ | done _ | delivered _ => exact ⟨sameWork_refl r, rfl⟩

/-- A poll made due leaves the bookkeeping in order (R163). -/
theorem makePollDue_standing (st : Station) : SameStanding st st.makePollDue := by
  unfold Station.makePollDue
  split
  next h => exact ⟨rfl, rfl, fun _ => ⟨fun hc => absurd h (by rw [show st.attentionCapable = false from hc]; decide), fun _ => rfl⟩⟩
  next => exact ⟨rfl, rfl, id⟩

theorem SameStanding.trans {a b c : Station} (h : SameStanding a b) (k : SameStanding b c) : SameStanding a c :=
  ⟨k.state.trans h.state, k.queue.trans h.queue, k.poll ∘ h.poll⟩

/-- A poll timer that stops leaves the bookkeeping in order. -/
theorem pollStopped_standing (st : Station) : SameStanding st { st with pollTimer := none } :=
  ⟨rfl, rfl, fun h => ⟨fun hc => ⟨(h.1 hc).1, rfl⟩, fun _ => rfl⟩⟩

theorem pollExpired_standing (st : Station) : SameStanding st st.pollExpired := by
  unfold Station.pollExpired
  split
  next => exact (pollStopped_standing st).trans (makePollDue_standing _)
  next => exact ⟨rfl, rfl, id⟩

theorem effects_busyBackoffExpiry (entry : EntryRef) :
    Effects B W Q s
      (match entry with
      | .request u => s.updateRequest u Request.backoffExpired
      | .posted p => s.updatePosted p Posted.backoffExpired) := by
  cases entry with
  | request u =>
    exact effects_updateRequest fun r _ => ⟨backoffExpired_sameWork r, backoffExpired_completedPort r⟩
  | posted p => exact effects_updatePosted posted_backoffExpired_same

theorem effects_discardExpired (u : Tag) : Effects B W Q s (discardExpired u s) := by
  unfold discardExpired
  split
  next => exact .refl
  next r hr =>
    split
    next w status ho hstate =>
      split
      next =>
        refine (effects_freeRequest (fun r' hr' => ?_) fun r' hr' => ?_).trans effects_setDiscarded <;>
          cases hr.symm.trans hr'
        · simp [ofWindow, ho]
        · exact .inl (by simp [Request.unfinished, hstate])
      next => exact .refl
    next => exact .refl

/-! ### The exchange in flight -/

theorem effects_continues {x x' : Exchange} (hx : s.exchange = some x) (h : Continues x x') :
    Effects B W Q s { s with exchange := some x' } := .one (.continues s x x' hx h)

/-- A change of phase leaves the exchange as it is. -/
theorem continues_phase (x : Exchange) (phase : EnginePhase)
    (h : x.phaseOfKind = true → { x with phase := phase }.phaseOfKind = true) : Continues x { x with phase := phase } :=
  ⟨rfl, rfl, rfl, rfl, rfl, id, le_rfl, h⟩

theorem effects_beginFrame : Effects B W Q s (beginFrame s) := by
  unfold beginFrame
  cases hx : s.exchange with
  | none => exact .refl
  | some x =>
    dsimp only
    cases hphase : x.phase with
    | pairWait n => exact effects_continues hx (continues_phase x _ fun _ => rfl)
    | sending _ | gap _ | window _ | receiving _ => exact .refl

theorem effects_frameSent : Effects B W Q s (frameSent s) := by
  unfold frameSent
  cases hx : s.exchange with
  | none => exact .refl
  | some x =>
    dsimp only
    cases hphase : x.phase with
    | sending rate =>
      dsimp only
      split
      next => exact .refl
      next h => exact effects_continues hx (continues_phase x _ fun _ => by simpa [Exchange.phaseOfKind] using h)
    | pairWait _ | gap _ | window _ | receiving _ => exact .refl

theorem effects_broadcastFrameSent : Effects B W Q s (broadcastFrameSent s) := by
  unfold broadcastFrameSent
  cases hx : s.exchange with
  | none => exact .refl
  | some x =>
    dsimp only
    cases hphase : x.phase with
    | sending rate =>
      dsimp only
      split
      next h => exact effects_continues hx (continues_phase x _ fun _ => by simpa [Exchange.phaseOfKind] using h)
      next => exact .refl
    | pairWait _ | gap _ | window _ | receiving _ => exact .refl

theorem effects_receptionBegin : Effects B W Q s (receptionBegin s) := by
  unfold receptionBegin
  cases hx : s.exchange with
  | none => exact .refl
  | some x =>
    dsimp only
    cases hphase : x.phase with
    | window n =>
      exact effects_continues hx (continues_phase x _ fun h => by simpa [Exchange.phaseOfKind, hphase] using h)
    | pairWait _ | sending _ | gap _ | receiving _ => exact .refl

/-- The next attempt of an exchange with attempts left (R79). -/
theorem effects_repeated {x : Exchange} (hx : s.exchange = some x) (h : x.attempt < x.limit) :
    Effects B W Q s
      { s with exchange := some { x with attempt := x.attempt + 1, phase := .pairWait s.settings.replyTicks } } :=
  effects_continues hx ⟨rfl, rfl, rfl, rfl, rfl, fun _ => h, Nat.le_succ _, fun _ => rfl⟩

/-! ### The tick (R186) -/

/-- The state after a tick, without the expiries it queues. -/
def ticked (s : State) : State :=
  { s with
    requests := tabulate fun u => (s.request u).map Request.tick
    posted := tabulate fun p => (s.postedEntry p).map Posted.tick
    stations := tabulate fun i => (s.station i).tick
    exchange := s.exchange.map Exchange.tick
    access := s.access.map HeldAccess.tick }

theorem tick_eq (s : State) : tick s = { ticked s with pending := s.pending ++ s.dueExpiries } := rfl

theorem request_tick_sameWork (r : Request) : SameWork r r.tick := by
  have hwindow : ofWindow r.tick = ofWindow r := by
    unfold ofWindow Request.tick
    cases r.origin <;> rfl
  unfold Request.tick at hwindow ⊢
  exact
    { station := rfl, order := rfl, window := hwindow, count := rfl, wordsDone := rfl
      unfinished := by cases h : r.state <;> simp [Request.unfinished, h]
      busy := by cases h : r.state <;> simp [Request.inProgress, h]
      carries := fun kind => by cases kind <;> cases h : r.state <;> simp [Request.carries, h]
      active := by cases h : r.state <;> simp
      counts := by cases h : r.state <;> simp [Request.countsKept, h] }

theorem request_tick_completedPort (r : Request) : r.tick.completedPort = r.completedPort := by
  unfold Request.completedPort Request.tick
  cases r.origin <;> cases r.state <;> rfl

theorem posted_tick_same (e : Posted) : SamePosted e e.tick := by
  unfold Posted.tick
  exact
    { target := rfl, order := rfl, data := rfl, wordsDone := rfl
      opened := by cases h : e.state <;> simp
      active := by cases h : e.state <;> simp
      busy := by cases h : e.state <;> simp [Posted.inProgress, h] }

theorem station_tick_standing (st : Station) : SameStanding st st.tick :=
  ⟨rfl, rfl, fun h => ⟨fun hc => ⟨(h.1 hc).1, by rw [Station.tick, (h.1 hc).2]; rfl⟩,
    fun hd => by rw [Station.tick, h.2 hd]; rfl⟩⟩

theorem exchange_tick_continues (x : Exchange) : Continues x x.tick := by
  unfold Exchange.tick
  exact continues_phase x _ (by cases h : x.phase <;> simp [Exchange.phaseOfKind, h])

theorem effects_ticked : Effects B W Q s (ticked s) := by
  let s1 : State := { s with requests := tabulate fun u => (s.request u).map Request.tick }
  let s2 : State := { s1 with posted := tabulate fun p => (s.postedEntry p).map Posted.tick }
  let s3 : State := { s2 with stations := tabulate fun i => (s.station i).tick }
  let s4 : State := { s3 with exchange := s.exchange.map Exchange.tick }
  have h1 : Effects B W Q s s1 := by
    have hget : ∀ u, s1.request u = (s.request u).map Request.tick := fun u => tabulate_get _ u
    refine effects_rows rfl (fun u => ?_) fun u => ?_ <;> rw [hget]
    · cases s.request u with
      | none => exact .free
      | some r => exact .kept (request_tick_sameWork r)
    · cases s.request u with
      | none => rfl
      | some r => exact request_tick_completedPort r
  have h2 : Effects B W Q s1 s2 := by
    refine effects_posteds rfl fun p => ?_
    rw [show s2.postedEntry p = (s.postedEntry p).map Posted.tick from tabulate_get _ p]
    show PostedKept (s.postedEntry p) _
    cases s.postedEntry p with
    | none => exact .free
    | some e => exact .kept (posted_tick_same e)
  have h3 : Effects B W Q s2 s3 := by
    refine effects_stations rfl fun i => ?_
    rw [show s3.station i = (s.station i).tick from tabulate_get _ i]
    exact station_tick_standing _
  have h4 : Effects B W Q s3 s4 := by
    cases hx : s.exchange with
    | none =>
      have : s4 = s3 := by simp [s4, s3, s2, s1, hx]
      rw [this]
    | some x =>
      have : s4 = { s3 with exchange := some x.tick } := by simp [s4, hx]
      rw [this]
      exact effects_continues hx (exchange_tick_continues x)
  exact (((h1.trans h2).trans h3).trans h4).trans (effects_registers rfl id)

end Sys2Proof.Proofs
end

section
/-! PROOFS. What each reply does to the owner of an ended exchange, as chains of elementary effects, and that the owner is
no longer ACTIVE. -/

namespace Sys2Proof.Proofs

open Sys2Proof.Machine Sys2Proof.Claims

variable {B W Q : Prop} {s t : State}

/-! ### The reply that is accepted -/

/-- The type of a reply (R57). -/
def replyKind : Reply → ReplyType
  | .data _ => .data
  | .ack => .ack
  | .nak _ => .nak
  | .parked => .parked
  | .attn _ _ => .attn
  | .quiet => .quiet
  | .identity _ => .identity

theorem replyKind_of_contents {type : ReplyType} {expected : Expected} {header : Word} {body : List Word} {reply : Reply}
    (h : replyContents type expected header body = some reply) : replyKind reply = type := by
  unfold replyContents at h
  split at h
  next => cases h; rfl
  next => cases h; rfl
  next => cases h; rfl
  next => obtain ⟨_, -, rfl⟩ := Option.map_eq_some_iff.mp h; rfl
  next => obtain ⟨_, -, rfl⟩ := Option.map_eq_some_iff.mp h; rfl
  next => split at h <;> cases h; rfl
  next => split at h <;> cases h; rfl
  next => cases h

theorem judge_accepts {kind : ExchangeKind} {parkable parkedWrite : Bool} {source : Nat} {expected : Expected}
    {rc : Reception} {reply : Reply} (h : judge kind parkable parkedWrite source expected rc = some reply) :
    acceptsReply kind parkable parkedWrite (replyKind reply) = true := by
  unfold judge at h
  split at h
  next =>
    split at h
    next =>
      split at h
      next =>
        split at h
        next type _ =>
          split at h
          next hacc => rw [replyKind_of_contents h]; exact hacc
          next => cases h
        next => cases h
      next => cases h
    next => cases h
  next => cases h

/-! ### An entry at rest -/

/-- A request entry is not ACTIVE. -/
def Rests (s : State) (u : Tag) : Prop := ∀ r, s.request u = some r → r.state ≠ .active

theorem rests_completed (s : State) (u : Tag) (r : Request) (status : Status) : Rests (completed s u r status) u := by
  intro q hq
  rw [request_completed, if_pos rfl] at hq
  have := active_of_finished q (completedRow_unfinished hq)
  simpa using this

theorem rests_putRequest {u : Tag} {r : Request} (h : r.state ≠ .active) : Rests (s.putRequest u (some r)) u := by
  intro q hq
  rw [request_putRequest, if_pos rfl] at hq
  cases hq
  exact h

theorem rests_of_none {u : Tag} (h : s.request u = none) : Rests s u := fun r hr => by rw [h] at hr; cases hr

/-- A chain that ends with an entry at rest. -/
structure Ends (B W Q : Prop) (s t : State) (u : Tag) : Prop where
  effects : Effects B W Q s t
  rests : Rests t u

/-- The completion of an entry at the end of its exchange, its row changed first. -/
theorem ends_finish {u : Tag} {r r' : Request} {status : Status} (hr : s.request u = some r) (hu : r.unfinished = true)
    (h : SameEntry r r') (hu' : r'.unfinished = true) (hidle : s.exchange = none)
    (hcounts : W → r.countsKept = true → { r' with state := .done status }.countsKept = true) :
    Ends B W Q s (completeRequest u status (s.putRequest u (some r'))) u := by
  rw [completeRequest_putRequest status hu']
  exact ⟨.one (.finish s u r r' status hr hu h (.inr hidle) hcounts), rests_completed s u r' status⟩

theorem ends_complete {u : Tag} {r : Request} {status : Status} (hr : s.request u = some r) (hu : r.unfinished = true)
    (hidle : s.exchange = none) (hs : status ≠ .success) : Ends B W Q s (completeRequest u status s) u := by
  rw [completeRequest_eq_completed status hr hu]
  exact ⟨.one (.finish s u r r status hr hu (sameEntry_refl r) (.inr hidle) fun _ => counts_done hs),
    rests_completed s u r status⟩

theorem ends_work {u : Tag} {r r' : Request} (hr : s.request u = some r) (hu : r.unfinished = true)
    (hu' : r'.unfinished = true) (h : SameEntry r r') (hactive : r'.state ≠ .active) (hidle : s.exchange = none)
    (hbusy : B → r.inProgress = true) (hcounts : W → r.countsKept = true → r'.countsKept = true) :
    Ends B W Q s (s.putRequest u (some r')) u :=
  ⟨.one (.work s u r r' hr hu hu' h hactive hidle hbusy hcounts), rests_putRequest hactive⟩

theorem putRequest_put (s : State) (u : Tag) (a b : Option Request) :
    (s.putRequest u a).putRequest u b = s.putRequest u b := by
  simp [State.putRequest]

/-! ### Segments -/

section Owner

variable {u : Tag} {r : Request} (hr : s.request u = some r) (hu : r.unfinished = true) (hidle : s.exchange = none)
  (hbusy : B → r.inProgress = true)
include hr hu hidle hbusy

theorem ends_segmentDone {length : Nat} (words : List Word)
    (hfits : W → r.countsKept = true → r.wordsDone + length ≤ r.count) :
    Ends B W Q s (segmentDone u length words s) u := by
  have hcounts : W → r.countsKept = true → ∀ (data : List Word) (state : RequestState) (abandon : Bool),
      (∀ part, state ≠ .parked part) →
      (state = .done .success ∨ state = .delivered .success → r.wordsDone + length = r.count) →
      { r with
        data := data, wordsDone := r.wordsDone + length, busyCount := 0, state := state
        abandonPending := abandon }.countsKept = true :=
    fun hW hc data state abandon hparked hsuccess => by
      obtain ⟨hcount, hmodify, -, -⟩ := counts_iff.mp hc
      exact counts_iff.mpr ⟨⟨hcount.1, hcount.2.1, hfits hW hc⟩, hmodify, hsuccess, fun part h => absurd h (hparked part)⟩
  simp only [segmentDone, hr]
  split
  next hend =>
    exact ends_finish hr hu ⟨rfl, rfl, rfl⟩ hu hidle fun hW hc => hcounts hW hc _ _ _ nofun fun _ => hend
  next =>
    split
    next =>
      exact ends_finish hr hu ⟨rfl, rfl, rfl⟩ hu hidle fun hW hc => hcounts hW hc _ _ _ nofun (by simp)
    next =>
      exact ends_work hr hu rfl ⟨rfl, rfl, rfl⟩ nofun hidle hbusy fun hW hc => hcounts hW hc _ _ _ nofun (by simp)

omit hr hu hidle hbusy in
/-- A change of the MODIFY part leaves what the queues and the counts read. -/
theorem mapModify_same (f : ModifyPart → ModifyPart) (r : Request) :
    SameEntry r (r.mapModify f) ∧ (r.mapModify f).unfinished = r.unfinished ∧
      ∀ status, status ≠ .success → r.countsKept = true →
        { r.mapModify f with state := .done status }.countsKept = true := by
  unfold Request.mapModify
  cases hk : r.kind with
  | modify m =>
    refine ⟨⟨rfl, rfl, rfl⟩, rfl, fun status hs hc => ?_⟩
    obtain ⟨hcount, hmodify, -, -⟩ := counts_iff.mp hc
    exact counts_iff.mpr ⟨hcount, fun _ _ => hmodify m hk, fun h => absurd h (by simpa using hs), nofun⟩
  | read | confirmedWrite => exact ⟨sameEntry_refl r, rfl, fun status hs => counts_done hs⟩

omit hbusy in
/-- The end of a request whose MODIFY part, if it has one, takes a last change. -/
theorem ends_completeModified (f : ModifyPart → ModifyPart) {status : Status} (hs : status ≠ .success) :
    Ends B W Q s (completeRequest u status (s.updateRequest u (Request.mapModify f))) u := by
  obtain ⟨hsame, hunfinished, hcounts⟩ := mapModify_same f r
  simp only [State.updateRequest, hr]
  exact ends_finish hr hu hsame (hunfinished.trans hu) hidle fun _ => hcounts status hs

theorem ends_requestBusy : Ends B W Q s (requestBusy u s) u := by
  have hbusied : ∀ n : Nat, SameEntry r { r with busyCount := n } := fun _ => ⟨rfl, rfl, rfl⟩
  simp only [requestBusy, hr]
  split
  next =>
    obtain ⟨hsame, hunfinished, hcounts⟩ :=
      mapModify_same ModifyPart.refused { r with busyCount := min Config.maxBusy (r.busyCount + 1) }
    have hsame' : SameEntry r _ :=
      ⟨hsame.station, hsame.order, hsame.window⟩
    have h := ends_finish (B := B) (W := W) (Q := Q) (status := .busyLimit) hr hu hsame' (hunfinished.trans hu) hidle
      fun _ => hcounts .busyLimit nofun
    simpa [refuseRequest, State.updateRequest, putRequest_put] using h
  next =>
    split
    next => exact ends_finish hr hu (hbusied _) hu hidle fun _ hc =>
        counts_done (r := { r with busyCount := _ }) (status := .cancelled) nofun hc
    next =>
      have h := ends_work (B := B) (W := W) (Q := Q)
        (r' := { r with
          busyCount := min Config.maxBusy (r.busyCount + 1), state := .waiting s.settings.backoffTicks })
        hr hu rfl ⟨rfl, rfl, rfl⟩ nofun hidle hbusy fun _ hc => by
          obtain ⟨hcount, hmodify, -, -⟩ := counts_iff.mp hc
          exact counts_iff.mpr ⟨hcount, hmodify, by simp, nofun⟩
      rwa [putRequest_put]

theorem ends_requestNak (reason : NakReason) : Ends B W Q s (requestNak u reason s) u := by
  cases reason with
  | busy => exact ends_requestBusy hr hu hidle hbusy
  | reject | fault => exact ends_completeModified hr hu hidle _ nofun

/-! ### Parking -/

theorem ends_enterParked {segment : Segment} (hfits : W → r.wordsDone + segment.length ≤ r.count) :
    Ends B W Q s (enterParked u segment s) u := by
  simp only [enterParked, State.updateRequest, hr]
  refine ends_work hr hu rfl ⟨rfl, rfl, rfl⟩ nofun hidle hbusy fun hW hc => ?_
  obtain ⟨hcount, hmodify, -, -⟩ := counts_iff.mp hc
  exact counts_iff.mpr ⟨hcount, hmodify, by simp, fun part hp => by cases hp; exact hfits hW⟩

omit hbusy in
theorem ends_abandonAcked : Ends B W Q s (abandonAcked u s) u := by
  simp only [abandonAcked, hr]
  exact ends_complete hr hu hidle (by split <;> nofun)

/-! ### MODIFY -/

theorem ends_modifyReadData {m : ModifyPart} (hm : r.kind = .modify m) (old : Word) :
    Ends B W Q s (modifyReadData u old s) u := by
  simp only [modifyReadData, hr, hm]
  split
  next =>
    split
    next =>
      refine ends_finish hr hu ⟨rfl, rfl, rfl⟩ hu hidle fun _ hc => ?_
      obtain ⟨hcount, hmodify, -, -⟩ := counts_iff.mp hc
      exact counts_iff.mpr ⟨hcount, fun _ _ => hmodify m hm, by simp, nofun⟩
    next =>
      refine ends_work hr hu rfl ⟨rfl, rfl, rfl⟩ nofun hidle hbusy fun _ hc => ?_
      obtain ⟨hcount, hmodify, -, -⟩ := counts_iff.mp hc
      exact counts_iff.mpr ⟨hcount, fun _ _ => hmodify m hm, by simp, nofun⟩
  next =>
    refine ends_finish hr hu ⟨rfl, rfl, rfl⟩ hu hidle fun _ hc => ?_
    obtain ⟨hcount, hmodify, -, -⟩ := counts_iff.mp hc
    have hone : r.count = 1 := hmodify m hm
    exact counts_iff.mpr ⟨⟨hcount.1, hcount.2.1, hcount.1⟩, fun _ _ => hone, fun _ => hone.symm, nofun⟩

omit hbusy in
theorem ends_modifyWriteAck (hm : W → ∃ m, r.kind = .modify m) : Ends B W Q s (modifyWriteAck u s) u := by
  obtain ⟨hsame, hunfinished, -⟩ := mapModify_same (fun m => { m with written := .yes }) r
  simp only [modifyWriteAck, State.updateRequest, hr]
  refine ends_finish hr hu ⟨hsame.station, hsame.order, hsame.window⟩ (hunfinished.trans hu) hidle fun hW hc => ?_
  obtain ⟨m, hm⟩ := hm hW
  obtain ⟨hcount, hmodify, -, -⟩ := counts_iff.mp hc
  have hone : r.count = 1 := hmodify m hm
  simp only [Request.mapModify, hm]
  exact counts_iff.mpr ⟨⟨hcount.1, hcount.2.1, hcount.1⟩, fun _ _ => hone, fun _ => hone.symm, nofun⟩

end Owner

/-! ### Replies to a request entry (R80) -/

theorem effects_collectAgain (u : Tag) : Effects B W Q s (collectAgain u s) := by
  refine effects_updateRequest fun r _ => ?_
  cases hstate : r.state with
  | parked part =>
    dsimp only
    split
    · exact ⟨sameWork_refl r, rfl⟩
    · exact ⟨parked_sameWork hstate (by rfl) _ _, completedPort_parked hstate _ _⟩
  | queued | active | waiting _ | done _ | delivered _ => exact ⟨sameWork_refl r, rfl⟩

/-- What the end of an exchange needs of the request entry that owns it: `B` that the entry is in the state the kind
needs, `W` that the segment fits as well. -/
structure OwnerMeets (B W : Prop) (x : Exchange) (r : Request) : Prop where
  carries : B → r.carries x.kind = true
  carriesToo : W → r.carries x.kind = true
  fits : W → x.kind = .readSegment ∨ x.kind = .writeSegment → r.wordsDone + x.count ≤ r.count

theorem OwnerMeets.busy {x : Exchange} {r : Request} (h : OwnerMeets B W x r) (hB : B) : r.inProgress = true :=
  (unfinished_of_carries (h.carries hB)).2.1

theorem rests_of_parked {u : Tag} {r : Request} {part : ParkPart} (hr : s.request u = some r)
    (hstate : r.state = .parked part) : Rests s u := fun q hq => by
  cases hr.symm.trans hq
  rw [hstate]
  nofun

theorem rests_of_effects {u : Tag} (h : Effects B W Q s t) (hs : Rests s u) : Rests t u := by
  have hactive : ∀ a : State, Rests a u ↔ ¬ isActive a (.request u) := fun a => by
    simp [Rests, isActive, rowTest, Option.any_eq_true]
  rw [hactive] at hs ⊢
  exact h.keeps (P := fun a => ¬ isActive a (.request u)) (fun _ _ he ha hb => ha (he.active_before _ hb)) hs

theorem parkedSegment_eq {u : Tag} {g : Segment} (h : s.parkedSegment u = some g) :
    ∃ r part, s.request u = some r ∧ r.state = .parked part ∧ part.segment = g := by
  unfold State.parkedSegment at h
  split at h
  next r hr =>
    cases hstate : r.state with
    | parked part => rw [hstate] at h; exact ⟨r, part, hr, hstate, by simpa using h⟩
    | queued | active | waiting _ | done _ | delivered _ => rw [hstate] at h; cases h
  next => cases h

section Owner

variable {u : Tag} {r : Request} {x : Exchange} (hr : s.request u = some r) (hu : r.unfinished = true)
  (hidle : s.exchange = none) (hmeets : OwnerMeets B W x r)
include hr hu hidle hmeets

theorem effects_collectReply (reply : Reply) :
    Effects B W Q s (collectReply u reply s) := by
  have hdone : ∀ g words, s.parkedSegment u = some g → Effects B W Q s (segmentDone u g.length words s) :=
    fun g words hg => by
      obtain ⟨r', part, hr', hstate, hsegment⟩ := parkedSegment_eq hg
      cases hr.symm.trans hr'
      refine (ends_segmentDone hr hu hidle hmeets.busy words fun _ hc => ?_).effects
      exact hsegment ▸ (counts_iff.mp hc).2.2.2 part hstate
  unfold collectReply
  split
  next words =>
    split
    next g hg => exact hdone g words hg
    next => exact .refl
  next =>
    split
    next g hg => exact hdone g [] hg
    next => exact .refl
  next => exact effects_collectAgain u
  next => exact effects_collectAgain u
  next => exact (ends_complete hr hu hidle (by decide)).effects
  next => exact (ends_complete hr hu hidle (by decide)).effects
  next => exact .refl
  next => exact .refl
  next => exact .refl

/-- A segment answered: its request goes on, ends or parks, and in each case is no longer ACTIVE. -/
theorem ends_segmentReply {write parkable parkedWrite : Bool} {reply : Reply}
    (hkind : x.kind = .readSegment ∨ x.kind = .writeSegment)
    (hacc : acceptsReply x.kind parkable parkedWrite (replyKind reply) = true) :
    Ends B W Q s (segmentReply x u write reply s) u := by
  have hfits : W → r.wordsDone + x.count ≤ r.count := fun hW => hmeets.fits hW hkind
  cases reply with
  | data words => exact ends_segmentDone hr hu hidle hmeets.busy words fun hW _ => hfits hW
  | ack => exact ends_segmentDone hr hu hidle hmeets.busy [] fun hW _ => hfits hW
  | nak reason => exact ends_requestNak hr hu hidle hmeets.busy reason
  | parked => exact ends_enterParked hr hu hidle hmeets.busy hfits
  | attn _ _ | quiet | identity _ => rcases hkind with hk | hk <;> simp [hk, acceptsReply, replyKind] at hacc

omit hidle hmeets hu in
theorem rests_of_carries_parked (hkind : x.kind = .collect ∨ x.kind = .abandon) (hc : r.carries x.kind = true) :
    Rests s u := by
  have hparked : ∃ part, r.state = .parked part := by
    rcases hkind with hk | hk <;> rw [hk] at hc <;> unfold Request.carries at hc <;> cases hs : r.state <;> simp_all
  obtain ⟨part, hstate⟩ := hparked
  exact rests_of_parked hr hstate

theorem effects_requestReply {parkable parkedWrite : Bool} {reply : Reply}
    (hacc : acceptsReply x.kind parkable parkedWrite (replyKind reply) = true) :
    Effects B W Q s (requestReply x u reply s) ∧
      (r.carries x.kind = true → Rests (requestReply x u reply s) u) := by
  have hends : ∀ {t} {C : Prop}, Ends B W Q s t u → Effects B W Q s t ∧ (C → Rests t u) :=
    fun h => ⟨h.effects, fun _ => h.rests⟩
  have hmodify : x.kind = .modifyRead ∨ x.kind = .modifyWrite → r.carries x.kind = true → ∃ m, r.kind = .modify m :=
    fun hk hc => by
      rcases hk with hk | hk <;> rw [hk] at hc <;> unfold Request.carries at hc <;> cases hm : r.kind <;> simp_all
  unfold requestReply
  cases hk : x.kind with
  | readSegment => exact hends (ends_segmentReply hr hu hidle hmeets (.inl hk) hacc)
  | writeSegment => exact hends (ends_segmentReply hr hu hidle hmeets (.inr hk) hacc)
  | modifyRead =>
    cases reply with
    | data words =>
      cases hm : r.kind with
      | modify m => exact hends (ends_modifyReadData hr hu hidle hmeets.busy hm _)
      | read | confirmedWrite =>
        dsimp only
        have hsame : modifyReadData u (words.headD 0#16) s = s := by simp [modifyReadData, hr, hm]
        rw [hsame]
        exact ⟨.refl, fun hc => by simp [Request.carries, hm] at hc⟩
    | nak reason => exact hends (ends_requestNak hr hu hidle hmeets.busy reason)
    | ack | parked | attn _ _ | quiet | identity _ => simp [hk, acceptsReply, replyKind] at hacc
  | modifyWrite =>
    cases reply with
    | ack =>
      exact hends (ends_modifyWriteAck hr hu hidle fun hW => hmodify (.inr hk) (hmeets.carriesToo hW))
    | nak reason => exact hends (ends_requestNak hr hu hidle hmeets.busy reason)
    | data _ | parked | attn _ _ | quiet | identity _ => simp [hk, acceptsReply, replyKind] at hacc
  | collect =>
    have heffects := effects_collectReply (Q := Q) hr hu hidle hmeets reply
    exact ⟨heffects, fun hc => rests_of_effects heffects (rests_of_carries_parked hr (.inl hk) (hk ▸ hc))⟩
  | abandon => exact hends (ends_abandonAcked hr hu hidle)
  | poll | identify | broadcast => exact ⟨.refl, fun hc => by simp [Request.carries] at hc⟩

end Owner

/-- A reply reaches its request entry: the chain of what it does, and that the entry is no longer ACTIVE if the exchange
was about it. -/
theorem effects_ownerReply {u : Tag} {x : Exchange} {parkable parkedWrite : Bool} {reply : Reply}
    (hidle : s.exchange = none) (hmeets : ∀ r, s.request u = some r → OwnerMeets B W x r)
    (hacc : acceptsReply x.kind parkable parkedWrite (replyKind reply) = true) :
    Effects B W Q s (ownerReply x u reply s) ∧
      ((∀ r, s.request u = some r → r.carries x.kind = true) → Rests (ownerReply x u reply s) u) := by
  unfold ownerReply
  cases hr : s.request u with
  | none => exact ⟨.refl, fun _ => rests_of_none hr⟩
  | some r =>
    dsimp only
    split
    next hu =>
      split
      next hstale =>
        have hwindow : ofWindow r = true := by
          simp only [Bool.and_eq_true, Request.stale] at hstale
          unfold ofWindow
          cases ho : r.origin <;> simp_all
        refine ⟨effects_freeRequest (fun q hq => ?_) fun _ _ => .inr hidle, fun _ => rests_of_none ?_⟩
        · cases hr.symm.trans hq; exact hwindow
        · rw [freeRequest_eq_vacated hr, request_vacated, if_pos rfl]
      next =>
        obtain ⟨heffects, hrests⟩ := effects_requestReply (Q := Q) hr hu hidle (hmeets r hr) hacc
        exact ⟨heffects, fun hc => hrests (hc r rfl)⟩
    next hu => exact ⟨.refl, fun hc => absurd (unfinished_of_carries (hc r rfl)).1 hu⟩

end Sys2Proof.Proofs
end

section
/-! PROOFS. What the end of an exchange does to a posted entry, to a station record and to the queue of a lost station, as
chains of elementary effects. -/

namespace Sys2Proof.Proofs

open Sys2Proof.Machine Sys2Proof.Claims

variable {B W Q : Prop} {s t : State}

/-! ### Posted entries -/

/-- A posted entry is not ACTIVE. -/
def PostedRests (s : State) (p : PostedIndex) : Prop := ∀ e, s.postedEntry p = some e → e.state ≠ .active

theorem postedRests_of_none {p : PostedIndex} (h : s.postedEntry p = none) : PostedRests s p := fun e he => by
  rw [h] at he; cases he

theorem postedRests_putPosted {p : PostedIndex} {e : Posted} (h : e.state ≠ .active) :
    PostedRests (s.putPosted p (some e)) p := by
  intro q hq
  rw [postedEntry_putPosted, if_pos rfl] at hq
  cases hq
  exact h

theorem postedRests_retired (s : State) (p : PostedIndex) (e : Posted) (fs : List FaultRecord) (d : Nat) :
    PostedRests (retired s p e fs d) p := postedRests_of_none (by rw [postedEntry_retired, if_pos rfl])

/-- A chain that ends with a posted entry at rest. -/
structure PostedEnds (B W Q : Prop) (s t : State) (p : PostedIndex) : Prop where
  effects : Effects B W Q s t
  rests : PostedRests t p

section Owner

variable {p : PostedIndex} {e : Posted} (he : s.postedEntry p = some e) (hidle : s.exchange = none)
include he hidle

theorem postedEnds_free (cause : Option FaultCause) : PostedEnds B W Q s (freePosted p cause s) p := by
  rw [freePosted_eq_retired he]
  exact ⟨effects_retired he rfl (.inr hidle) cause, postedRests_retired _ _ _ _ _⟩

theorem postedEnds_freeChanged {e' : Posted} (htarget : e'.target = e.target) (cause : Option FaultCause) :
    PostedEnds B W Q s (freePosted p cause (s.putPosted p (some e'))) p := by
  rw [freePosted_putPosted]
  exact ⟨effects_retired he htarget (.inr hidle) cause, postedRests_retired _ _ _ _ _⟩

theorem postedEnds_work {e' : Posted} (htarget : e'.target = e.target) (horder : e'.order = e.order)
    (hdata : e'.data = e.data) (hopened : e'.state ≠ .opened) (hactive : e'.state ≠ .active)
    (hbusy : B → e.inProgress = true) (hcounts : W → e.countsKept = true → e'.countsKept = true) :
    PostedEnds B W Q s (s.putPosted p (some e')) p :=
  ⟨.one (.workPosted s p e e' he htarget horder hdata hopened hactive hidle hbusy hcounts),
    postedRests_putPosted hactive⟩

theorem postedEnds_busy (hbusy : B → e.inProgress = true) : PostedEnds B W Q s (postedBusy p s) p := by
  simp only [postedBusy, he]
  split
  next => exact postedEnds_free he hidle _
  next =>
    split
    next => exact postedEnds_free he hidle _
    next => exact postedEnds_work he hidle rfl rfl rfl nofun nofun hbusy fun _ hc => hc

theorem postedEnds_ack {length : Nat} (hbusy : B → e.inProgress = true) (hfits : W → e.wordsDone + length ≤ e.count) :
    PostedEnds B W Q s (postedAck p length s) p := by
  simp only [postedAck, he]
  split
  next => exact postedEnds_freeChanged he hidle (by rfl) _
  next =>
    split
    next => exact postedEnds_freeChanged he hidle (by rfl) _
    next =>
      refine postedEnds_work he hidle rfl rfl rfl nofun nofun hbusy fun hW hc => ?_
      obtain ⟨h1, h2, -⟩ := posted_counts_iff.mp hc
      exact posted_counts_iff.mpr ⟨h1, h2, hfits hW⟩

/-- A reply that a segment of a posted entry accepts: its NOPARK leaves ACK and NAK. -/
theorem postedEnds_reply {x : Exchange} {parkable parkedWrite : Bool} {reply : Reply}
    (hbusy : B → e.inProgress = true) (hfits : W → e.wordsDone + x.count ≤ e.count)
    (hacc : acceptsReply x.kind parkable parkedWrite (replyKind reply) = true) :
    Effects B W Q s (postedReply p x.count reply s) ∧
      (x.kind = .writeSegment → parkable = false → PostedRests (postedReply p x.count reply s) p) := by
  have hends : ∀ {t} {C D : Prop}, PostedEnds B W Q s t p → Effects B W Q s t ∧ (C → D → PostedRests t p) :=
    fun h => ⟨h.effects, fun _ _ => h.rests⟩
  cases reply with
  | ack => exact hends (postedEnds_ack he hidle hbusy hfits)
  | nak reason =>
    cases reason with
    | busy => exact hends (postedEnds_busy he hidle hbusy)
    | reject => exact hends (postedEnds_free he hidle (some .rejected))
    | fault => exact hends (postedEnds_free he hidle (some .stationFault))
  | data _ | attn _ _ | quiet | identity _ =>
    exact ⟨.refl, fun hk _ => by simp [hk, acceptsReply, replyKind] at hacc⟩
  | parked => exact ⟨.refl, fun hk hp => by simp [hk, hp, acceptsReply, replyKind] at hacc⟩

end Owner

theorem effects_postedReply {p : PostedIndex} {x : Exchange} {parkable parkedWrite : Bool} {reply : Reply}
    (hidle : s.exchange = none)
    (hmeets : ∀ e, s.postedEntry p = some e →
      (B → e.inProgress = true) ∧ (W → e.wordsDone + x.count ≤ e.count))
    (hacc : acceptsReply x.kind parkable parkedWrite (replyKind reply) = true) :
    Effects B W Q s (postedReply p x.count reply s) ∧
      (x.kind = .writeSegment → parkable = false → PostedRests (postedReply p x.count reply s) p) := by
  cases he : s.postedEntry p with
  | some e =>
    obtain ⟨hbusy, hfits⟩ := hmeets e he
    exact postedEnds_reply he hidle hbusy hfits hacc
  | none =>
    have hsame : postedReply p x.count reply s = s := by
      unfold postedReply
      split <;> simp [postedAck, postedBusy, freePosted_of_free, he]
    rw [hsame]
    exact ⟨.refl, fun _ _ => postedRests_of_none he⟩

/-! ### Attention (R166 to R169) -/

theorem pairwise_append_item {q : List AttentionItem} {item : AttentionItem}
    (hq : q.Pairwise fun a b => a.station ≠ b.station ∨ a.code ≠ b.code)
    (hnew : ¬ q.any (fun a => a.matches item.station item.code) = true) :
    (q ++ [item]).Pairwise fun a b => a.station ≠ b.station ∨ a.code ≠ b.code := by
  rw [List.pairwise_append]
  refine ⟨hq, List.pairwise_singleton .., fun a ha b hb => ?_⟩
  cases List.mem_singleton.mp hb
  by_contra h
  rw [not_or, not_not, not_not] at h
  exact hnew (List.any_eq_true.mpr ⟨a, ha, by simp [AttentionItem.matches, h]⟩)

/-- What keeps the attention queue in order, of a queue (R162). -/
def ItemsKept (q : List AttentionItem) : Prop :=
  q.length ≤ Config.attentionItems ∧
    q.Pairwise (fun a b => a.station ≠ b.station ∨ a.code ≠ b.code) ∧
    ∀ a ∈ q, 1 ≤ a.occurrences ∧ a.occurrences ≤ Config.maxOccurrences

theorem itemsKept_merge {q : List AttentionItem} (i : StationId) (e : AttnEntry) (h : ItemsKept q) :
    ItemsKept (mergeItem q i e) := by
  obtain ⟨hlength, hpair, hocc⟩ := h
  refine ⟨by simpa [mergeItem] using hlength, ?_, fun a ha => ?_⟩
  · rw [mergeItem, List.pairwise_map]
    refine hpair.imp fun {a b} hab => ?_
    split <;> split <;> simpa using hab
  · obtain ⟨b, hb, rfl⟩ := List.mem_map.mp ha
    have := hocc b hb
    split
    · dsimp only
      unfold Config.maxOccurrences at this ⊢
      omega
    · exact this

theorem itemsKept_takeItems (i : StationId) (items : List AttnEntry) (q : List AttentionItem) (last : Byte)
    (h : ItemsKept q) : ItemsKept (takeItems i items q last).queue := by
  induction items generalizing q last with
  | nil => exact h
  | cons e rest ih =>
    unfold takeItems
    split
    next =>
      split
      next => exact ih _ _ (itemsKept_merge i e h)
      next hnew =>
        split
        next hroom =>
          obtain ⟨hlength, hpair, hocc⟩ := h
          refine ih _ _ ⟨by simp; omega, pairwise_append_item hpair hnew, fun a ha => ?_⟩
          rcases List.mem_append.mp ha with ha | ha
          · exact hocc a ha
          · cases List.mem_singleton.mp ha
            exact ⟨le_rfl, show 1 ≤ 255 by decide⟩
        next => exact h
    next => exact ih _ _ h

theorem pollEnded_standing (st : Station) (ticks : Nat) (again stopped : Bool) :
    SameStanding st (st.pollEnded ticks again stopped) := by
  refine ⟨rfl, rfl, fun _ => ⟨fun hc => ?_, fun hd => ?_⟩⟩
  · have hc : st.attentionCapable = false := hc
    simp [Station.pollEnded, hc]
  · simp only [Station.pollEnded, Bool.and_eq_true] at hd
    simp [Station.pollEnded, hd]

theorem effects_pollQuiet (i : StationId) : Effects B W Q s (pollQuiet i s) :=
  effects_updateStation (pollEnded_standing ..)

theorem effects_pollAttn (i : StationId) (items : List AttnEntry) (more : Bool) :
    Effects B W Q s (pollAttn i items more s) := by
  unfold pollAttn
  dsimp only
  refine (effects_updateStation (i := i) ?_).tail (.attention _ _ fun h => ?_)
  · exact SameStanding.trans
      (b := { s.station i with lastSequence := (takeItems i items s.attention (s.station i).lastSequence).last })
      ⟨rfl, rfl, id⟩ (pollEnded_standing _ _ _ _)
  · exact itemsKept_takeItems i items s.attention _ h

/-! ### The LOST transition, the drain and the BROADCAST -/

theorem mapModify_sameWork (f : ModifyPart → ModifyPart) (r : Request) :
    SameWork r (r.mapModify f) ∧ (r.mapModify f).completedPort = r.completedPort := by
  unfold Request.mapModify
  cases hk : r.kind with
  | modify m =>
    refine ⟨{ station := rfl, order := rfl, window := rfl, unfinished := rfl, count := rfl, wordsDone := rfl
              busy := id, active := id, carries := fun kind => ?_, counts := ?_ }, rfl⟩
    · cases kind <;> simp [Request.carries, hk]
    · simp [Request.countsKept, hk]
  | read | confirmedWrite => exact ⟨sameWork_refl r, rfl⟩

theorem effects_loseOwner (owner : Owner) (hidle : s.exchange = none) : Effects B W Q s (loseOwner owner s) := by
  unfold loseOwner
  cases owner with
  | request u =>
    dsimp only
    split
    next r hr =>
      split
      next hstale =>
        refine effects_freeRequest (fun q hq => ?_) fun _ _ => .inr hidle
        cases hr.symm.trans hq
        unfold Request.stale at hstale
        unfold ofWindow
        cases ho : r.origin <;> simp_all
      next =>
        cases hu : r.unfinished with
        | true => exact (ends_completeModified hr hu hidle _ (by decide)).effects
        | false =>
          refine Relation.ReflTransGen.trans (b := s.updateRequest u (Request.mapModify ModifyPart.failed))
            (effects_updateRequest fun q _ => mapModify_sameWork _ q) ?_
          rw [completeRequest_finished]
          intro q hq
          rw [State.updateRequest, hr, request_putRequest, if_pos rfl] at hq
          cases hq
          exact (mapModify_same ModifyPart.failed r).2.1.trans hu
    next => exact .refl
  | posted p => exact effects_freePosted fun _ _ => .inr hidle
  | station i => exact .refl

theorem effects_loseMember (hidle : s.exchange = none) (x : EntryRef) : Effects B W Q s (loseMember s x) := by
  cases x with
  | request u => exact effects_completeRequest (by decide) fun _ _ _ => .inr hidle
  | posted p => exact effects_freePosted (cause := some .stationLost) fun _ _ => .inr hidle

end Sys2Proof.Proofs
end

section
/-! PROOFS. What a part of a step keeps, as one record that composes, and the chains and plain changes that keep it. -/

namespace Sys2Proof.Proofs

open Sys2Proof.Machine Sys2Proof.Claims

variable {B W Q : Prop} {s t u : State}

/-! ### What composes -/

/-- The tables, lists and registers are kept in order. -/
structure TablesKept (s t : State) : Prop where
  completions : CompletionsExact s → CompletionsExact t
  attention : AttentionKept s → AttentionKept t
  faults : FaultsKept s → FaultsKept t
  pool : PoolKept s → PoolKept t
  quota : WindowQuotaKept s → WindowQuotaKept t
  oneOpen : OneOpen s → OneOpen t
  staging : StagingKept s → StagingKept t
  settings : SettingsInRange s.settings → SettingsInRange t.settings
  attempts : AttemptsKept s → AttemptsKept t
  polls : PollsKept s → PollsKept t
  queues : QueuesExact s → QueuesExact t
  orders : QueuesExact s → OrdersRising s → OrdersRising t

theorem TablesKept.refl (s : State) : TablesKept s s := ⟨id, id, id, id, id, id, id, id, id, id, id, fun _ => id⟩

theorem TablesKept.trans (h : TablesKept s t) (k : TablesKept t u) : TablesKept s u where
  completions := k.completions ∘ h.completions
  attention := k.attention ∘ h.attention
  faults := k.faults ∘ h.faults
  pool := k.pool ∘ h.pool
  quota := k.quota ∘ h.quota
  oneOpen := k.oneOpen ∘ h.oneOpen
  staging := k.staging ∘ h.staging
  settings := k.settings ∘ h.settings
  attempts := k.attempts ∘ h.attempts
  polls := k.polls ∘ h.polls
  queues := k.queues ∘ h.queues
  orders hq ho := k.orders (h.queues hq) (h.orders hq ho)

theorem Effects.tablesKept (h : Effects B W Q s t) (hQ : WindowQuotaKept s → Q) : TablesKept s t where
  completions := h.keeps fun _ _ he => he.completionsExact
  attention := h.keeps fun _ _ he => he.attentionKept
  faults := h.keeps fun _ _ he => he.faultsKept
  pool := h.keeps fun _ _ he => he.poolKept
  quota hs := h.keeps (P := WindowQuotaKept) (fun _ _ he => he.windowQuotaKept (hQ hs)) hs
  oneOpen := h.keeps fun _ _ he => he.oneOpen
  staging := h.keeps fun _ _ he => he.stagingKept
  settings := h.keeps (P := fun s => SettingsInRange s.settings) fun _ _ he => he.settingsInRange
  attempts := h.keeps fun _ _ he => he.attemptsKept
  polls := h.keeps fun _ _ he => he.pollsKept
  queues := h.keeps fun _ _ he => he.queuesExact
  orders hq ho :=
    (h.keeps (P := fun s => QueuesExact s ∧ OrdersRising s)
      (fun _ _ he hs => ⟨he.queuesExact hs.1, he.ordersRising hs.1 hs.2⟩) ⟨hq, ho⟩).2

/-- The work at the heads of the queues, the exchange in flight and the words done are kept in order. -/
structure WorkKept (s t : State) : Prop where
  heads : QueuesExact s → OnlyHeadsBusy s → OwnerStands s → OnlyHeadsBusy t
  owner : QueuesExact s → OnlyHeadsBusy s → OwnerStands s → OwnerStands t
  words : OwnerStands s → WordsDoneKept s → WordsDoneKept t

/-- The link and the scheduler are kept in order. -/
structure LinkKept (s t : State) : Prop where
  scheduler : SchedulerKept s → SchedulerKept t
  down : DownIsQuiet s → DownIsQuiet t
  pass : DownIsQuiet s → PassKept s → PassKept t
  online : DownIsQuiet s → PassKept s → OnlineQueuesOnly s → OnlineQueuesOnly t

theorem LinkKept.refl (s : State) : LinkKept s s := ⟨id, id, fun _ => id, fun _ _ => id⟩

theorem LinkKept.trans (h : LinkKept s t) (k : LinkKept t u) : LinkKept s u where
  scheduler := k.scheduler ∘ h.scheduler
  down := k.down ∘ h.down
  pass hd hp := k.pass (h.down hd) (h.pass hd hp)
  online hd hp ho := k.online (h.down hd) (h.pass hd hp) (h.online hd hp ho)

/-- A part of a step that begins and ends no exchange. -/
structure Steady (s t : State) : Prop where
  tables : TablesKept s t
  heads : QueuesExact s → OnlyHeadsBusy s → OnlyHeadsBusy t
  owner : OwnerStands s → OwnerStands t
  words : OwnerStands s → WordsDoneKept s → WordsDoneKept t
  link : LinkKept s t

theorem Steady.refl (s : State) : Steady s s := ⟨.refl s, fun _ => id, id, fun _ => id, .refl s⟩

theorem Steady.trans (h : Steady s t) (k : Steady t u) : Steady s u where
  tables := h.tables.trans k.tables
  heads hq hb := k.heads (h.tables.queues hq) (h.heads hq hb)
  owner := k.owner ∘ h.owner
  words ho hw := k.words (h.owner ho) (h.words ho hw)
  link := h.link.trans k.link

/-- Everything a step keeps. -/
structure StepKept (s t : State) : Prop where
  tables : TablesKept s t
  work : WorkKept s t
  link : LinkKept s t

theorem Steady.stepKept (h : Steady s t) : StepKept s t where
  tables := h.tables
  work := ⟨fun hq hb _ => h.heads hq hb, fun _ _ => h.owner, h.words⟩
  link := h.link

/-- A steady part before and after what begins or ends an exchange. -/
theorem Steady.then (h : Steady s t) (k : StepKept t u) : StepKept s u where
  tables := h.tables.trans k.tables
  work :=
    { heads := fun hq hb ho => k.work.heads (h.tables.queues hq) (h.heads hq hb) (h.owner ho)
      owner := fun hq hb ho => k.work.owner (h.tables.queues hq) (h.heads hq hb) (h.owner ho)
      words := fun ho hw => k.work.words (h.owner ho) (h.words ho hw) }
  link := h.link.trans k.link

/-! ### Chains -/

theorem continues_all_passKept {x x' : Exchange} (h : Continues x x') {p : List StationId} :
    (x'.kind = .identify && p.head?.any fun i => x'.owner = .station i) =
      (x.kind = .identify && p.head?.any fun i => x.owner = .station i) := by
  rw [h.kind, h.owner]

theorem Effect.passExchange (h : Effect B W Q s t) (p : List StationId)
    (hs : s.exchange.all (fun x => x.kind = .identify && p.head?.any fun i => x.owner = .station i) = true) :
    t.exchange.all (fun x => x.kind = .identify && p.head?.any fun i => x.owner = .station i) = true := by
  rcases h.exchange with he | ⟨x, x', hx, hx', hc⟩
  · rwa [he]
  · rw [hx] at hs
    rw [hx', Option.all_some, continues_all_passKept hc]
    exact hs

theorem Effects.passExchange (h : Effects B W Q s t) (p : List StationId) :
    s.exchange.all (fun x => x.kind = .identify && p.head?.any fun i => x.owner = .station i) = true →
      t.exchange.all (fun x => x.kind = .identify && p.head?.any fun i => x.owner = .station i) = true :=
  h.keeps (P := fun s => s.exchange.all (fun x => x.kind = .identify && p.head?.any fun i => x.owner = .station i) = true)
    fun _ _ he => he.passExchange p

theorem Effects.linkKept (h : Effects B W Q s t) : LinkKept s t := by
  have hframe := h.frame
  have hstand := h.standingKept
  refine ⟨fun hs => ?_, fun hs hdown => ?_, fun _ hs hlink => ?_, fun _ _ hs i hi => ?_⟩
  · unfold SchedulerKept at hs ⊢
    rwa [hframe.highPosition, hframe.lowPosition, hframe.starvation]
  · obtain ⟨hidle, hall⟩ := hs (hframe.link ▸ hdown)
    refine ⟨h.exchange_none hidle, fun i => ?_⟩
    obtain ⟨habsent, hempty⟩ := hall i
    exact ⟨(hstand.state i).trans habsent, hstand.queue i (by rw [habsent]; nofun) hempty⟩
  · obtain ⟨hnodup, hoff, hx⟩ := hs (hframe.link ▸ hlink)
    rw [hframe.pass]
    exact ⟨hnodup, fun i hi => by rw [hstand.state]; exact hoff i hi, h.passExchange _ hx⟩
  · rw [hstand.state] at hi
    exact hstand.queue i hi (hs i hi)

/-- A chain outside the end of an exchange is steady. -/
theorem Effects.steady (h : Effects True True (WindowQuotaKept s) s t) : Steady s t where
  tables := h.tablesKept id
  heads hq hb :=
    (h.keeps (P := fun s => QueuesExact s ∧ OnlyHeadsBusy s)
      (fun _ _ he hs => ⟨he.queuesExact hs.1, he.onlyHeadsBusy trivial hs.1 hs.2⟩) ⟨hq, hb⟩).2
  owner := h.keeps fun _ _ he => he.ownerStandsKept
  words ho hw :=
    (h.keeps (P := fun s => OwnerStands s ∧ WordsDoneKept s)
      (fun _ _ he hs => ⟨he.ownerStandsKept hs.1, he.wordsDoneKept trivial hs.1 hs.2⟩) ⟨ho, hw⟩).2
  link := h.linkKept

/-! ### Changes that no table reads -/

/-- A change of the reports' registers, the port, the link, the scheduler and the station records that keeps the queues
and the poll bookkeeping. -/
structure Retained (s t : State) : Prop where
  fields : t =
    { s with
      pending := t.pending, portWaiting := t.portWaiting, completion := t.completion
      attentionRecord := t.attentionRecord, faultRegisters := t.faultRegisters, link := t.link, pass := t.pass
      highPosition := t.highPosition, lowPosition := t.lowPosition, starvation := t.starvation
      stations := t.stations }
  queue : ∀ i, (t.station i).queue = (s.station i).queue
  poll : ∀ i, PollKept (s.station i) → PollKept (t.station i)

theorem retained_of_stations
    (h : t =
      { s with
        pending := t.pending, portWaiting := t.portWaiting, completion := t.completion
        attentionRecord := t.attentionRecord, faultRegisters := t.faultRegisters, link := t.link, pass := t.pass
        highPosition := t.highPosition, lowPosition := t.lowPosition, starvation := t.starvation }) : Retained s t := by
  have hst : t.stations = s.stations := by rw [h]
  have hi : ∀ i, t.station i = s.station i := fun i => congrArg (fun v : Vector Station 14 => v[i]) hst
  exact ⟨by rw [hst]; exact h, fun i => by rw [hi], fun i hp => by rw [hi]; exact hp⟩

section Retained

variable (h : Retained s t)
include h

theorem Retained.request (u : Tag) : t.request u = s.request u := by rw [h.fields]; rfl

theorem Retained.postedEntry (p : PostedIndex) : t.postedEntry p = s.postedEntry p := by rw [h.fields]; rfl

theorem Retained.exchange : t.exchange = s.exchange := by rw [h.fields]

theorem Retained.broadcastQueue : t.broadcastQueue = s.broadcastQueue := by rw [h.fields]

theorem Retained.busy (x : EntryRef) : t.busy x = s.busy x := by
  cases x with
  | request u => simp only [State.busy, h.request]
  | posted p => simp only [State.busy, h.postedEntry]

theorem Retained.queueOf (target : Target) : Proofs.queueOf t target = Proofs.queueOf s target := by
  cases target with
  | station i => exact h.queue i
  | broadcast => exact congrArg (List.map _) h.broadcastQueue

theorem Retained.home (x : EntryRef) : Proofs.home t x = Proofs.home s x := by
  cases x with
  | request u => exact home_request_congr (h.request u)
  | posted p => exact home_posted_congr (h.postedEntry p)

theorem Retained.queueChange : QueueChange s t := .kept h.home h.queueOf

theorem Retained.placesKept : PlacesKept s t :=
  placesKept_of_same (by rw [h.fields]) fun x n hx => by
    cases x with
    | request u => simpa only [orderPlace, h.request] using hx
    | posted p => simpa only [orderPlace, h.postedEntry] using hx

theorem Retained.tablesKept : TablesKept s t where
  completions hs := by rw [h.fields]; exact hs
  attention hs := by rw [h.fields]; exact hs
  faults hs := by rw [h.fields]; exact hs
  pool hs := by rw [h.fields]; exact hs
  quota hs := by rw [h.fields]; exact hs
  oneOpen hs := by rw [h.fields]; exact hs
  staging hs := by rw [h.fields]; exact hs
  settings hs := by rw [h.fields]; exact hs
  attempts hs := by rw [h.fields]; exact hs
  polls hs i := h.poll i (hs i)
  queues := h.queueChange.queuesExact
  orders := ordersRising_of_change h.queueChange h.placesKept

theorem Retained.onlyHeadsBusy (hb : OnlyHeadsBusy s) : OnlyHeadsBusy t :=
  onlyHeadsBusy_of_change h.queueChange (fun x hx => by rwa [h.busy] at hx) hb

theorem Retained.ownerStands_eq (x : Exchange) : t.ownerStands x = s.ownerStands x := by
  simp only [State.ownerStands, h.queue, h.broadcastQueue, h.request, h.postedEntry]

theorem Retained.ownerStands (ho : OwnerStands s) : OwnerStands t := by
  simpa only [OwnerStands, h.exchange, h.request, h.postedEntry, h.ownerStands_eq] using ho

theorem Retained.wordsDoneKept (hw : WordsDoneKept s) : WordsDoneKept t := by rw [h.fields]; exact hw

theorem Retained.steady (hl : LinkKept s t) : Steady s t where
  tables := h.tablesKept
  heads _ := h.onlyHeadsBusy
  owner := h.ownerStands
  words _ := h.wordsDoneKept
  link := hl

end Retained

/-- A change of the queue of commands, the port's waiting accesses or the reports' registers alone. -/
theorem steady_registers
    (h : t =
      { s with
        pending := t.pending, portWaiting := t.portWaiting, completion := t.completion
        attentionRecord := t.attentionRecord, faultRegisters := t.faultRegisters }) : Steady s t := by
  refine (retained_of_stations (t := t) ?_).steady ?_
  · rw [h]
  · rw [h]
    exact ⟨id, id, fun _ => id, fun _ _ => id⟩

end Sys2Proof.Proofs
end

section
/-! PROOFS. Entries taken one after another: the members of a list each complete, are freed, are marked or are left, and
the whole is said at once, field by field. The drain, STATION-FLUSH and the LOST transition are such. -/

namespace Sys2Proof.Proofs

open Sys2Proof.Machine Sys2Proof.Claims

variable {s t u : State}

/-- What becomes of each member: the row it leaves, the tag it appends to the Completion List, the record it makes,
whether it latches WINDOW, and the queue it leaves. -/
structure Fate where
  request : Tag → Option Request
  posted : PostedIndex → Option Posted
  tag : EntryRef → Option Tag
  record : EntryRef → Option FaultRecord
  latches : EntryRef → Bool
  leaves : EntryRef → Option Target

/-- A queue without the members that leave it. -/
def leftBehind (k : Fate) (target : Target) (members queue : List EntryRef) : List EntryRef :=
  members.foldl (fun q x => if k.leaves x = some target then q.erase x else q) queue

/-- The members of a list have been taken, one after another. -/
structure Takes (k : Fate) (s : State) (members : List EntryRef) (t : State) : Prop where
  request : ∀ w, t.request w = if .request w ∈ members then k.request w else s.request w
  posted : ∀ p, t.postedEntry p = if .posted p ∈ members then k.posted p else s.postedEntry p
  tags : t.completionList = s.completionList ++ members.filterMap k.tag
  faults : s.dropped ≤ 255 → t.faults = recorded s.faults (members.filterMap k.record)
  dropped : s.dropped ≤ 255 → t.dropped = dropsCounted s.faults (members.filterMap k.record) s.dropped
  queue : ∀ i, (t.station i).queue = leftBehind k (.station i) members (s.station i).queue
  station : ∀ i, { t.station i with queue := (s.station i).queue } = s.station i
  broadcast : (∀ x ∈ members, k.leaves x ≠ some .broadcast) → t.broadcastQueue = s.broadcastQueue
  latched : t.latched = { s.latched with window := s.latched.window || members.any k.latches }
  frame : t =
    { s with
      requests := t.requests, posted := t.posted, completionList := t.completionList, faults := t.faults
      dropped := t.dropped, stations := t.stations, broadcastQueue := t.broadcastQueue, latched := t.latched }

/-! ### Records made one after another -/

theorem recorded_append (faults a b : List FaultRecord) :
    recorded (recorded faults a) b = recorded faults (a ++ b) := by
  unfold recorded
  rw [List.append_assoc]
  congr 1
  rw [List.take_append]
  simp only [List.length_append, List.length_take]
  congr 2
  omega

theorem dropsCounted_append (faults a b : List FaultRecord) (d : Nat) :
    dropsCounted (recorded faults a) b (dropsCounted faults a d) = dropsCounted faults (a ++ b) d := by
  unfold dropsCounted recorded
  simp only [List.length_append, List.length_take]
  omega

theorem recorded_nil (faults : List FaultRecord) : recorded faults [] = faults := by simp [recorded]

theorem dropsCounted_nil (faults : List FaultRecord) {d : Nat} (h : d ≤ 255) : dropsCounted faults [] d = d := by
  unfold dropsCounted
  simp only [List.length_nil]
  omega

theorem dropsCounted_le (faults records : List FaultRecord) (d : Nat) : dropsCounted faults records d ≤ 255 :=
  Nat.min_le_left ..

/-! ### Composition -/

theorem Takes.nil (k : Fate) (s : State) : Takes k s [] s where
  request _ := rfl
  posted _ := rfl
  tags := by simp
  faults _ := (recorded_nil _).symm
  dropped h := (dropsCounted_nil _ h).symm
  queue _ := rfl
  station _ := rfl
  broadcast _ := rfl
  latched := by simp
  frame := rfl

theorem Takes.cons {k : Fate} {x : EntryRef} {members : List EntryRef} (h : Takes k s [x] t) (l : Takes k t members u) :
    Takes k s (x :: members) u where
  request w := by
    rw [l.request, h.request]
    by_cases hw : EntryRef.request w ∈ members <;> simp [hw]
  posted p := by
    rw [l.posted, h.posted]
    by_cases hp : EntryRef.posted p ∈ members <;> simp [hp]
  tags := by
    rw [l.tags, h.tags, List.append_assoc, ← List.filterMap_append, List.singleton_append]
  faults hd := by
    have hd' : t.dropped ≤ 255 := h.dropped hd ▸ dropsCounted_le ..
    rw [l.faults hd', h.faults hd, recorded_append, ← List.filterMap_append, List.singleton_append]
  dropped hd := by
    have hd' : t.dropped ≤ 255 := h.dropped hd ▸ dropsCounted_le ..
    rw [l.dropped hd', h.faults hd, h.dropped hd, dropsCounted_append, ← List.filterMap_append, List.singleton_append]
  queue i := by rw [l.queue, h.queue]; rfl
  station i := by
    rw [← h.station i, ← l.station i]
  broadcast hb := (l.broadcast fun y hy => hb y (List.mem_cons_of_mem x hy)).trans
    (h.broadcast fun y hy => hb y (List.mem_singleton.mp hy ▸ List.mem_cons_self))
  latched := by rw [l.latched, h.latched]; simp [Bool.or_assoc]
  frame := by
    rw [l.frame, h.frame]

/-- The row of a member. -/
def SameRow (s t : State) : EntryRef → Prop
  | .request w => t.request w = s.request w
  | .posted p => t.postedEntry p = s.postedEntry p

theorem Takes.sameRow {k : Fate} {members : List EntryRef} (h : Takes k s members t) {x : EntryRef} (hx : x ∉ members) :
    SameRow s t x := by
  cases x with
  | request w => exact (h.request w).trans (if_neg hx)
  | posted p => exact (h.posted p).trans (if_neg hx)

theorem Takes.settings {k : Fate} {members : List EntryRef} (h : Takes k s members t) : t.settings = s.settings := by
  rw [h.frame]

/-- Members taken by a function that treats each as its fate says, where the fate is read off the rows at the start. -/
theorem takes_foldl {k : Fate} {f : State → EntryRef → State} {s₀ : State} {members : List EntryRef}
    (hone : ∀ x ∈ members, ∀ s, SameRow s₀ s x → s.settings = s₀.settings → Takes k s [x] (f s x))
    (hnodup : members.Nodup) (hrows : ∀ x ∈ members, SameRow s₀ s x) (hset : s.settings = s₀.settings) :
    Takes k s members (members.foldl f s) := by
  induction members generalizing s with
  | nil => exact .nil k s
  | cons x members ih =>
    obtain ⟨hx, hnodup⟩ := List.nodup_cons.mp hnodup
    have h1 := hone x List.mem_cons_self s (hrows x List.mem_cons_self) hset
    refine h1.cons (ih (fun y hy => hone y (List.mem_cons_of_mem x hy)) hnodup (fun y hy => ?_) (h1.settings.trans hset))
    have hne : y ∉ [x] := fun h => hx (List.mem_singleton.mp h ▸ hy)
    have h2 := h1.sameRow hne
    have h3 := hrows y (List.mem_cons_of_mem x hy)
    cases y with
    | request w => exact h2.trans h3
    | posted p => exact h2.trans h3

/-! ### One member -/

@[simp] theorem postedEntry_putRequest (s : State) (w : Tag) (r : Option Request) (p : PostedIndex) :
    (s.putRequest w r).postedEntry p = s.postedEntry p := rfl

@[simp] theorem station_putRequest (s : State) (w : Tag) (r : Option Request) (i : StationId) :
    (s.putRequest w r).station i = s.station i := rfl

@[simp] theorem request_putPosted (s : State) (p : PostedIndex) (e : Option Posted) (w : Tag) :
    (s.putPosted p e).request w = s.request w := rfl

@[simp] theorem station_putPosted (s : State) (p : PostedIndex) (e : Option Posted) (i : StationId) :
    (s.putPosted p e).station i = s.station i := rfl

theorem takes_completed {k : Fate} {w : Tag} {r : Request} {status : Status}
    (hrow : k.request w = completedRow s.settings r status)
    (htag : k.tag (.request w) = if r.origin = .port then some w else none) (hrecord : k.record (.request w) = none)
    (hlatch : k.latches (.request w) = match r.origin with
      | .port => false
      | .window part => !part.held)
    (hleaves : k.leaves (.request w) = some (.station r.station)) :
    Takes k s [.request w] (completed s w r status) where
  request v := by
    rw [request_completed]
    by_cases hv : w = v
    · subst hv; simp [hrow]
    · simp [hv, Ne.symm hv]
  posted p := by simp [completed, State.postedEntry]
  tags := by
    rw [List.filterMap_cons, htag, List.filterMap_nil]
    show completedList s w r = _
    unfold completedList
    cases r.origin <;> simp
  faults _ := by simp [completed, hrecord, recorded_nil]
  dropped hd := by simp [completed, hrecord, dropsCounted_nil _ hd]
  queue i := by
    rw [station_completed]
    simp only [leftBehind, List.foldl_cons, List.foldl_nil, hleaves]
    by_cases hi : r.station = i
    · subst hi; simp
    · simp [hi]
  station i := by
    rw [station_completed]
    split
    next h => subst h; rfl
    next => rfl
  broadcast _ := rfl
  latched := by
    show completedCauses s r = _
    rw [List.any_cons, hlatch, List.any_nil]
    unfold completedCauses
    cases r.origin <;> simp
  frame := rfl

/-- A member whose row alone changes. -/
theorem takes_putRequest {k : Fate} {w : Tag} {r : Request} (hrow : k.request w = some r)
    (htag : k.tag (.request w) = none) (hrecord : k.record (.request w) = none)
    (hlatch : k.latches (.request w) = false) (hleaves : k.leaves (.request w) = none) :
    Takes k s [.request w] (s.putRequest w (some r)) where
  request v := by
    rw [request_putRequest]
    by_cases hv : w = v
    · subst hv; simp [hrow]
    · simp [hv, Ne.symm hv]
  posted p := by simp
  tags := by simp [htag]
  faults _ := by simp [hrecord, recorded_nil]
  dropped hd := by simp [hrecord, dropsCounted_nil _ hd]
  queue i := by simp [leftBehind, hleaves]
  station i := by simp
  broadcast _ := rfl
  latched := by simp [hlatch]
  frame := rfl

/-- A window entry that is freed. -/
theorem takes_vacated {k : Fate} {w : Tag} {r : Request} (hrow : k.request w = none)
    (htag : k.tag (.request w) = none) (hrecord : k.record (.request w) = none)
    (hlatch : k.latches (.request w) = false) (hleaves : k.leaves (.request w) = some (.station r.station)) :
    Takes k s [.request w] (vacated s w r) where
  request v := by
    rw [request_vacated]
    by_cases hv : w = v
    · subst hv; simp [hrow]
    · simp [hv, Ne.symm hv]
  posted p := by simp [vacated, State.postedEntry]
  tags := by simp [htag, vacated]
  faults _ := by simp [hrecord, recorded_nil, vacated]
  dropped hd := by simp [hrecord, dropsCounted_nil _ hd, vacated]
  queue i := by
    rw [station_vacated]
    simp only [leftBehind, List.foldl_cons, List.foldl_nil, hleaves]
    by_cases hi : r.station = i
    · subst hi; simp
    · simp [hi]
  station i := by
    rw [station_vacated]
    split
    next h => subst h; rfl
    next => rfl
  broadcast _ := rfl
  latched := by simp [hlatch, vacated]
  frame := rfl

/-- A posted entry that is freed with a record. -/
theorem takes_freePosted {k : Fate} {p : PostedIndex} {e : Posted} {cause : FaultCause} (he : s.postedEntry p = some e)
    (hrow : k.posted p = none) (htag : k.tag (.posted p) = none)
    (hrecord : k.record (.posted p) = some (postedRecord e cause)) (hlatch : k.latches (.posted p) = false)
    (hleaves : k.leaves (.posted p) = some e.target) :
    Takes k s [.posted p] (freePosted p (some cause) s) := by
  have hrecorded : s.dropped ≤ 255 →
      (causeRecorded s e (some cause)).faults = recorded s.faults [postedRecord e cause] ∧
      (causeRecorded s e (some cause)).dropped = dropsCounted s.faults [postedRecord e cause] s.dropped := fun hd => by
    have : causeRecorded s e (some cause) = _ := appendFault_eq hd (e.faultRecord cause)
    rw [this, faultRecord_eq]
    exact ⟨rfl, rfl⟩
  rw [freePosted_eq_retired he]
  exact
    { request := fun v => by simp [retired, State.request]
      posted := fun q => by
        rw [postedEntry_retired]
        by_cases hq : p = q
        · subst hq; simp [hrow]
        · simp [hq, Ne.symm hq]
      tags := by simp [htag, retired]
      faults := fun hd => by rw [List.filterMap_cons, hrecord, List.filterMap_nil]; exact (hrecorded hd).1
      dropped := fun hd => by rw [List.filterMap_cons, hrecord, List.filterMap_nil]; exact (hrecorded hd).2
      queue := fun i => by
        rw [station_retired]
        simp only [leftBehind, List.foldl_cons, List.foldl_nil, hleaves, Option.some.injEq]
        split <;> rfl
      station := fun i => by
        rw [station_retired]
        split <;> rfl
      broadcast := fun hb => by
        have := hb _ List.mem_cons_self
        rw [hleaves] at this
        cases htarget : e.target with
        | broadcast => exact absurd (by rw [htarget]) this
        | station i => simp [retired, broadcastsWithout, htarget]
      latched := by simp [hlatch, retired]
      frame := rfl }

/-- A posted entry whose row alone changes. -/
theorem takes_putPosted {k : Fate} {p : PostedIndex} {e : Posted} (hrow : k.posted p = some e)
    (htag : k.tag (.posted p) = none) (hrecord : k.record (.posted p) = none)
    (hlatch : k.latches (.posted p) = false) (hleaves : k.leaves (.posted p) = none) :
    Takes k s [.posted p] (s.putPosted p (some e)) where
  request v := by simp
  posted q := by
    rw [postedEntry_putPosted]
    by_cases hq : p = q
    · subst hq; simp [hrow]
    · simp [hq, Ne.symm hq]
  tags := by simp [htag]
  faults _ := by simp [hrecord, recorded_nil]
  dropped hd := by simp [hrecord, dropsCounted_nil _ hd]
  queue i := by simp [leftBehind, hleaves]
  station i := by simp
  broadcast _ := rfl
  latched := by simp [hlatch]
  frame := rfl

end Sys2Proof.Proofs
end

section
/-! PROOFS. The end of the drain (R47): what becomes of every entry, station and list. -/

namespace Sys2Proof.Proofs

open Sys2Proof.Machine Sys2Proof.Claims

variable {s : State}

/-! ### The entries the drain takes -/

theorem mem_unfinishedPorts {u : Tag} :
    u ∈ s.unfinishedPorts ↔ ∃ r, s.request u = some r ∧ r.unfinished = true ∧ r.origin = .port := by
  have h : u ∈ s.unfinishedPorts ↔ _ :=
    requestsWhere_mem (s := s) (test := fun r => r.unfinished && r.origin = .port) (u := u)
  simpa using h

theorem nodup_unfinishedPorts : s.unfinishedPorts.Nodup := by
  have h := requestsWhere_eq s fun r => r.unfinished && r.origin = .port
  exact (show s.unfinishedPorts = _ from h) ▸ nodup_inOrder

theorem sorted_unfinishedPorts :
    s.unfinishedPorts.Pairwise fun u v => ∀ q r, s.request u = some q → s.request v = some r → q.order ≤ r.order := by
  have h := requestsWhere_eq s fun r => r.unfinished && r.origin = .port
  have hsorted := sorted_inOrder (order := Request.order)
    (row := fun u => (s.request u).filter fun r => r.unfinished && r.origin = .port)
  rw [← h] at hsorted
  refine hsorted.imp_of_mem fun {u v} hu hv huv q r hq hr => ?_
  obtain ⟨q', hq', hqt⟩ := requestsWhere_mem.mp hu
  obtain ⟨r', hr', hrt⟩ := requestsWhere_mem.mp hv
  cases hq.symm.trans hq'
  cases hr.symm.trans hr'
  exact huv q r (by simp [hq, hqt]) (by simp [hr, hrt])

theorem postedInOrder_eq (s : State) : s.postedInOrder = inOrder Posted.order s.postedEntry := by
  unfold State.postedInOrder inOrder
  congr 2
  funext p
  cases s.postedEntry p <;> rfl

/-! ### The two rounds -/

/-- What the drain does to the unfinished PORT entries. -/
def portFate (s : State) : Fate where
  request u := (s.request u).map fun r => { r with state := .done .linkDown }
  posted _ := none
  tag
    | .request u => some u
    | .posted _ => none
  record _ := none
  latches _ := false
  leaves
    | .request u => (s.request u).map fun r => .station r.station
    | .posted _ => none

/-- What the drain does to the posted entries. -/
def postedFate (s : State) : Fate where
  request _ := none
  posted _ := none
  tag _ := none
  record
    | .request _ => none
    | .posted p => (s.postedEntry p).map fun e => postedRecord e .linkDown
  latches _ := false
  leaves
    | .request _ => none
    | .posted p => (s.postedEntry p).map Posted.target

/-- A member of either round. -/
def drainMember (s : State) : EntryRef → State
  | .request u => drainPort s u
  | .posted p => drainPosted s p

theorem takes_ports (s : State) :
    Takes (portFate s) s (s.unfinishedPorts.map .request) (s.unfinishedPorts.foldl drainPort s) := by
  have hfold : s.unfinishedPorts.foldl drainPort s = (s.unfinishedPorts.map .request).foldl drainMember s := by
    rw [List.foldl_map]; rfl
  rw [hfold]
  refine takes_foldl (s₀ := s) (fun x hx t hrow _ => ?_) ?_ (fun x _ => ?_) rfl
  · obtain ⟨u, hu, rfl⟩ := List.mem_map.mp hx
    obtain ⟨r, hr, hunfinished, hport⟩ := mem_unfinishedPorts.mp hu
    have hrow : t.request u = some r := (show t.request u = s.request u from hrow).trans hr
    show Takes _ t _ (completeRequest u .linkDown t)
    rw [completeRequest_eq_completed .linkDown hrow hunfinished]
    exact takes_completed (by simp [portFate, hr, completedRow, hport]) (by simp [portFate, hport]) rfl
      (by simp [portFate, hport]) (by simp [portFate, hr])
  · exact nodup_unfinishedPorts.map fun _ _ h => EntryRef.request.inj h
  · cases x <;> rfl

theorem takes_posteds (s : State) :
    Takes (postedFate s) s (s.postedInOrder.map .posted) (s.postedInOrder.foldl drainPosted s) := by
  have hfold : s.postedInOrder.foldl drainPosted s = (s.postedInOrder.map .posted).foldl drainMember s := by
    rw [List.foldl_map]; rfl
  rw [hfold]
  refine takes_foldl (s₀ := s) (fun x hx t hrow _ => ?_) ?_ (fun x _ => ?_) rfl
  · obtain ⟨p, hp, rfl⟩ := List.mem_map.mp hx
    rw [postedInOrder_eq] at hp
    obtain ⟨e, he⟩ := mem_inOrder.mp hp
    have hrow : t.postedEntry p = some e := (show t.postedEntry p = s.postedEntry p from hrow).trans he
    exact takes_freePosted hrow rfl rfl (by simp [postedFate, he]) rfl (by simp [postedFate, he])
  · rw [postedInOrder_eq]
    exact nodup_inOrder.map posted_injective
  · cases x <;> rfl

/-! ### The whole -/

/-- The state between the two rounds: the PORT entries finished, the window entries freed. -/
def portsDrained (s : State) : State :=
  let s1 := s.unfinishedPorts.foldl drainPort s
  { s1 with requests := tabulate fun u => windowRowFreed (s1.request u) }

/-- The state after the two rounds. -/
def entriesDrained (s : State) : State := (portsDrained s).postedInOrder.foldl drainPosted (portsDrained s)

/-- The end of the drain once its entries are finished: a held read ends, the stations are ABSENT, the link is DOWN. -/
def linkDrained (d : State) : State :=
  { endHeldRead d with
    stations := tabulate fun i => ((endHeldRead d).station i).drained
    broadcastQueue := [], link := .down, pass := [], highPosition := 0, lowPosition := 0, starvation := 0
    latched := { (endHeldRead d).latched with link := true } }

theorem drain_eq (s : State) : drain s = linkDrained (entriesDrained s) := rfl

theorem linkDrained_fields (d : State) : linkDrained d =
    { d with
      stations := tabulate fun i => (d.station i).drained
      broadcastQueue := [], link := .down, pass := [], highPosition := 0, lowPosition := 0, starvation := 0
      latched := { d.latched with link := true }
      access := (endHeldRead d).access, dataOut := (endHeldRead d).dataOut
      windowStatus := (endHeldRead d).windowStatus } := by
  unfold linkDrained endHeldRead
  split <;> rfl

/-- A row of the Request Table at the end of the drain (R31, R160). -/
def drainedRow : Option Request → Option Request
  | none => none
  | some r =>
    match r.origin with
    | .window _ => none
    | .port => some (if r.unfinished then { r with state := .done .linkDown } else r)

theorem request_portsDrained (s : State) (u : Tag) : (portsDrained s).request u = drainedRow (s.request u) := by
  have hrow : (portsDrained s).request u = windowRowFreed ((s.unfinishedPorts.foldl drainPort s).request u) :=
    tabulate_get _ u
  have hmem : EntryRef.request u ∈ s.unfinishedPorts.map EntryRef.request ↔ u ∈ s.unfinishedPorts :=
    List.mem_map_of_injective fun _ _ h => EntryRef.request.inj h
  rw [hrow, (takes_ports s).request]
  simp only [hmem, mem_unfinishedPorts]
  cases hr : s.request u with
  | none => simp [windowRowFreed, drainedRow]
  | some r =>
    cases ho : r.origin with
    | port => cases hu : r.unfinished <;> simp [windowRowFreed, drainedRow, portFate, hr, ho, hu]
    | window w => simp [windowRowFreed, drainedRow, ho]

theorem postedEntry_portsDrained (s : State) (p : PostedIndex) : (portsDrained s).postedEntry p = s.postedEntry p := by
  have h := (takes_ports s).posted p
  rw [if_neg (by simp)] at h
  exact h

theorem postedInOrder_portsDrained (s : State) : (portsDrained s).postedInOrder = s.postedInOrder := by
  rw [postedInOrder_eq, postedInOrder_eq]
  congr 1
  funext p
  exact postedEntry_portsDrained s p

/-- The second round, as a change of the state after the first. -/
theorem takes_entriesDrained (s : State) :
    Takes (postedFate s) (portsDrained s) (s.postedInOrder.map .posted) (entriesDrained s) := by
  have h := takes_posteds (portsDrained s)
  have hfate : postedFate (portsDrained s) = postedFate s := by
    unfold postedFate
    simp only [postedEntry_portsDrained]
  rw [entriesDrained, postedInOrder_portsDrained]
  rwa [hfate, postedInOrder_portsDrained] at h

/-! ### The state the drain leaves, field by field -/

theorem request_drain (s : State) (u : Tag) : (drain s).request u = drainedRow (s.request u) := by
  have h : (drain s).requests = (entriesDrained s).requests := by rw [drain_eq, linkDrained_fields]
  have h : (drain s).request u = (entriesDrained s).request u := congrArg (fun v : Vector (Option Request) 16 => v[u]) h
  rw [h, (takes_entriesDrained s).request, if_neg (by simp), request_portsDrained]

theorem postedEntry_drain (s : State) (p : PostedIndex) : (drain s).postedEntry p = none := by
  have h : (drain s).posted = (entriesDrained s).posted := by rw [drain_eq, linkDrained_fields]
  have h : (drain s).postedEntry p = (entriesDrained s).postedEntry p :=
    congrArg (fun v : Vector (Option Posted) 16 => v[p]) h
  rw [h, (takes_entriesDrained s).posted, postedEntry_portsDrained]
  split
  next => rfl
  next h =>
    have hout : ¬ p ∈ s.postedInOrder := fun hp => h (List.mem_map_of_mem hp)
    rw [postedInOrder_eq, mem_inOrder] at hout
    exact Option.eq_none_iff_forall_ne_some.mpr fun e he => hout ⟨e, he⟩

/-- What is drained of a station record does not depend on its queue. -/
theorem drained_eq_of_queue {a b : Station} (h : { a with queue := b.queue } = b) : a.drained = b.drained := by
  rw [← h]
  rfl

theorem station_drain (s : State) (i : StationId) : (drain s).station i = (s.station i).drained := by
  have h : (drain s).stations = tabulate fun i => ((entriesDrained s).station i).drained := by
    rw [drain_eq, linkDrained_fields]
  have h : (drain s).station i = ((entriesDrained s).station i).drained := by
    rw [State.station, h]
    exact tabulate_get _ i
  have hports : (portsDrained s).station i = (s.unfinishedPorts.foldl drainPort s).station i := rfl
  rw [h, drained_eq_of_queue ((takes_entriesDrained s).station i), hports,
    drained_eq_of_queue ((takes_ports s).station i)]

theorem completionList_drain (s : State) : (drain s).completionList = s.completionList ++ s.unfinishedPorts := by
  have h1 : (drain s).completionList = (entriesDrained s).completionList := by rw [drain_eq, linkDrained_fields]
  have h2 : (portsDrained s).completionList = (s.unfinishedPorts.foldl drainPort s).completionList := rfl
  rw [h1, (takes_entriesDrained s).tags, h2, (takes_ports s).tags, List.filterMap_map, List.filterMap_map]
  simp [portFate, postedFate, Function.comp_def]

/-- The records the drain makes. -/
def drainRecords (s : State) : List FaultRecord :=
  s.postedInOrder.filterMap fun p => (s.postedEntry p).map fun e => postedRecord e .linkDown

theorem faults_drain {s : State} (hd : s.dropped ≤ 255) :
    (drain s).faults = recorded s.faults (drainRecords s) ∧
      (drain s).dropped = dropsCounted s.faults (drainRecords s) s.dropped := by
  have hports := takes_ports s
  have hentries := takes_entriesDrained s
  have hnone : (s.unfinishedPorts.map EntryRef.request).filterMap (portFate s).record = [] := by
    rw [List.filterMap_map]
    simp [portFate, Function.comp_def]
  have hf : (portsDrained s).faults = s.faults := by
    have h : (portsDrained s).faults = (s.unfinishedPorts.foldl drainPort s).faults := rfl
    rw [h, hports.faults hd, hnone, recorded_nil]
  have hdrop : (portsDrained s).dropped = s.dropped := by
    have h : (portsDrained s).dropped = (s.unfinishedPorts.foldl drainPort s).dropped := rfl
    rw [h, hports.dropped hd, hnone, dropsCounted_nil _ hd]
  have hrecords : (s.postedInOrder.map EntryRef.posted).filterMap (postedFate s).record = drainRecords s := by
    rw [List.filterMap_map]; rfl
  have h : (drain s).faults = (entriesDrained s).faults ∧ (drain s).dropped = (entriesDrained s).dropped := by
    rw [drain_eq, linkDrained_fields]
    exact ⟨rfl, rfl⟩
  rw [h.1, h.2, hentries.faults (by rwa [hdrop]), hentries.dropped (by rwa [hdrop]), hrecords, hf, hdrop]
  exact ⟨rfl, rfl⟩

theorem any_false {α : Type} (l : List α) : (l.any fun _ => false) = false :=
  List.any_eq_false.mpr fun _ _ => Bool.false_ne_true

theorem latched_entriesDrained (s : State) : (entriesDrained s).latched = s.latched := by
  have h : (portsDrained s).latched = (s.unfinishedPorts.foldl drainPort s).latched := rfl
  rw [(takes_entriesDrained s).latched, h, (takes_ports s).latched]
  simp [portFate, postedFate, any_false]

theorem portsDrained_fields (s : State) : portsDrained s =
    { s with
      requests := (portsDrained s).requests, posted := (portsDrained s).posted
      completionList := (portsDrained s).completionList, faults := (portsDrained s).faults
      dropped := (portsDrained s).dropped, stations := (portsDrained s).stations
      broadcastQueue := (portsDrained s).broadcastQueue, latched := (portsDrained s).latched } := by
  have h := (takes_ports s).frame
  unfold portsDrained
  generalize s.unfinishedPorts.foldl drainPort s = q at h ⊢
  rw [h]

/-- Beside the entries, the stations, the lists of reports and the held read, the drain moves the link and the scheduler
alone. -/
theorem drain_fields (s : State) : drain s =
    { s with
      requests := (drain s).requests, posted := (drain s).posted, stations := (drain s).stations
      completionList := (drain s).completionList, faults := (drain s).faults, dropped := (drain s).dropped
      access := (drain s).access, dataOut := (drain s).dataOut, windowStatus := (drain s).windowStatus
      link := .down, pass := [], broadcastQueue := [], highPosition := 0, lowPosition := 0, starvation := 0
      latched := { s.latched with link := true } } := by
  have hlatched := latched_entriesDrained s
  have hentries := (takes_entriesDrained s).frame
  have hports := portsDrained_fields s
  rw [drain_eq, linkDrained_fields, hlatched]
  generalize portsDrained s = p at hentries hports
  generalize entriesDrained s = d at hentries ⊢
  rw [hentries, hports]

theorem drain_frame (s : State) :
    { drain s with
      requests := s.requests, posted := s.posted, stations := s.stations, completionList := s.completionList
      faults := s.faults, dropped := s.dropped, access := s.access, dataOut := s.dataOut
      windowStatus := s.windowStatus } =
      { s with
        link := .down, pass := [], broadcastQueue := [], highPosition := 0, lowPosition := 0, starvation := 0
        latched := { s.latched with link := true } } := by
  rw [drain_fields]

/-- A held read ends with the drain (R160). -/
theorem heldRead_drain (s : State) :
    ((∃ u a n, s.access = some (.read u a n)) →
      (drain s).access = none ∧ (drain s).dataOut = some 0xFFFF#16 ∧
        (drain s).windowStatus = { s.windowStatus with last := .error .linkDown }) ∧
    ((∀ u a n, s.access ≠ some (.read u a n)) →
      (drain s).access = s.access ∧ (drain s).dataOut = s.dataOut ∧ (drain s).windowStatus = s.windowStatus) := by
  have hentries := (takes_entriesDrained s).frame
  have hports := portsDrained_fields s
  rw [drain_eq, linkDrained_fields]
  generalize portsDrained s = p at hentries hports
  generalize entriesDrained s = d at hentries ⊢
  have hd : d.access = s.access ∧ d.dataOut = s.dataOut ∧ d.windowStatus = s.windowStatus := by
    rw [hentries, hports]
    exact ⟨rfl, rfl, rfl⟩
  obtain ⟨hacc, hout, hstatus⟩ := hd
  dsimp only
  unfold endHeldRead
  rw [hacc]
  cases h : s.access with
  | none => exact ⟨by simp, fun _ => ⟨hacc.trans h, hout, hstatus⟩⟩
  | some a =>
    cases a with
    | read u a n => exact ⟨fun _ => ⟨rfl, rfl, by dsimp only; rw [hstatus]⟩, fun hn => absurd rfl (hn u a n)⟩
    | write a v n => exact ⟨by simp, fun _ => ⟨hacc.trans h, hout, hstatus⟩⟩

/-! ### The drain as the statements say it -/

theorem unfinished_iff {r : Request} : r.unfinished = true ↔ Unfinished r := by
  unfold Request.unfinished Unfinished
  cases h : r.state <;> simp

/-- The posted entries the drain frees, with their indices, earliest accepted first. -/
def drainEntries (s : State) : List (PostedIndex × Posted) :=
  s.postedInOrder.filterMap fun p => (s.postedEntry p).map fun e => (p, e)

theorem mem_drainEntries {p : PostedIndex} {e : Posted} : (p, e) ∈ drainEntries s ↔ s.postedEntry p = some e := by
  unfold drainEntries
  rw [List.mem_filterMap]
  constructor
  · rintro ⟨q, -, hq⟩
    obtain ⟨f, hf, heq⟩ := Option.map_eq_some_iff.mp hq
    cases heq
    exact hf
  · intro he
    exact ⟨p, by rw [postedInOrder_eq, mem_inOrder]; exact ⟨e, he⟩, by rw [he]; rfl⟩

theorem drainEntries_fst : (drainEntries s).map Prod.fst = s.postedInOrder := by
  have hmem : ∀ l : List PostedIndex, (∀ p ∈ l, ∃ e, s.postedEntry p = some e) →
      (l.filterMap fun p => (s.postedEntry p).map fun e => (p, e)).map Prod.fst = l := fun l hl => by
    induction l with
    | nil => rfl
    | cons p l ih =>
      obtain ⟨e, he⟩ := hl p List.mem_cons_self
      rw [List.filterMap_cons, he, Option.map_some]
      exact congrArg (p :: ·) (ih fun q hq => hl q (List.mem_cons_of_mem p hq))
  exact hmem _ fun p hp => by rwa [postedInOrder_eq, mem_inOrder] at hp

theorem drainEntries_sorted : (drainEntries s).Pairwise fun a b => a.2.order ≤ b.2.order := by
  have hsorted := sorted_inOrder (order := Posted.order) (row := s.postedEntry)
  rw [← postedInOrder_eq, ← drainEntries_fst, List.pairwise_map] at hsorted
  exact hsorted.imp_of_mem fun {a b} ha hb hab => hab a.2 b.2 (mem_drainEntries.mp ha) (mem_drainEntries.mp hb)

theorem drainEntries_records : (drainEntries s).map (fun a => postedRecord a.2 .linkDown) = drainRecords s := by
  unfold drainEntries drainRecords
  rw [List.map_filterMap]
  congr 1
  funext p
  cases s.postedEntry p <;> rfl

theorem drained_drain (hd : s.dropped ≤ 255) : Drained s (drain s) := by
  obtain ⟨hfaults, hdropped⟩ := faults_drain hd
  obtain ⟨hread, hnoread⟩ := heldRead_drain s
  refine ⟨s.unfinishedPorts, drainEntries s, fun u r hr hport hu => ?_, fun u r hr hport hu => ?_, fun u hu => ?_,
    nodup_unfinishedPorts, fun u => ?_, sorted_unfinishedPorts, completionList_drain s, ?_, fun p e => mem_drainEntries,
    drainEntries_sorted, postedEntry_drain s, ?_, ?_, station_drain s, hread, hnoread, drain_frame s⟩
  · rw [request_drain, hr]
    simp [drainedRow, hport, unfinished_iff.mpr hu]
  · rw [request_drain, hr]
    simp [drainedRow, hport, mt unfinished_iff.mp hu]
  · rw [request_drain]
    rcases hu with hu | ⟨r, w, hr, ho⟩
    · rw [hu]; rfl
    · rw [hr]; simp [drainedRow, ho]
  · rw [mem_unfinishedPorts]
    simp only [unfinished_iff]
    exact ⟨fun ⟨r, hr, hu, ho⟩ => ⟨r, hr, ho, hu⟩, fun ⟨r, hr, ho, hu⟩ => ⟨r, hr, hu, ho⟩⟩
  · rw [drainEntries_fst, postedInOrder_eq]
    exact nodup_inOrder
  · rw [drainEntries_records]; exact hfaults
  · rw [drainEntries_records]; exact hdropped

end Sys2Proof.Proofs
end

section
/-! PROOFS. What the end of the drain keeps. -/

namespace Sys2Proof.Proofs

open Sys2Proof.Machine Sys2Proof.Claims

variable {s t : State}

theorem drainedRow_cases {row : Option Request} {q : Request} (h : drainedRow row = some q) :
    ∃ r, row = some r ∧ r.origin = .port ∧ q = if r.unfinished then { r with state := .done .linkDown } else r := by
  cases row with
  | none => cases h
  | some r =>
    simp only [drainedRow] at h
    split at h
    next => cases h
    next ho => exact ⟨r, rfl, ho, (Option.some.inj h).symm⟩

theorem drainedRow_finished {row : Option Request} {q : Request} (h : drainedRow row = some q) :
    q.unfinished = false := by
  obtain ⟨r, -, -, rfl⟩ := drainedRow_cases h
  split
  next => rfl
  next h => simpa using h

theorem request_drain_finished {u : Tag} {q : Request} (h : (drain s).request u = some q) : q.unfinished = false := by
  rw [request_drain] at h
  exact drainedRow_finished h

theorem queue_drain (s : State) (i : StationId) : ((drain s).station i).queue = [] := by
  rw [station_drain]
  rfl

theorem exchange_drain (s : State) : (drain s).exchange = s.exchange := by rw [drain_fields]

theorem broadcastQueue_drain (s : State) : (drain s).broadcastQueue = [] := by rw [drain_fields]

theorem link_drain (s : State) : (drain s).link = .down := by rw [drain_fields]

/-! ### The reports -/

theorem completionsExact_drain (hs : CompletionsExact s) : CompletionsExact (drain s) := by
  obtain ⟨hnodup, hmem⟩ := hs
  have hout : ∀ u ∈ s.unfinishedPorts, u ∉ s.completionList := fun u hu hl => by
    obtain ⟨r, hr, hunfinished, -⟩ := mem_unfinishedPorts.mp hu
    rw [hmem, hr, Option.any_some, completedPort_of_unfinished hunfinished] at hl
    cases hl
  refine ⟨?_, fun u => ?_⟩
  · rw [completionList_drain]
    exact hnodup.append nodup_unfinishedPorts fun u hl hu => hout u hu hl
  · rw [completionList_drain, List.mem_append, hmem, mem_unfinishedPorts, request_drain]
    cases hr : s.request u with
    | none => simp [drainedRow]
    | some r =>
      cases ho : r.origin with
      | window w => simp [drainedRow, ho, Request.completedPort]
      | port => cases hstate : r.state <;> simp [drainedRow, ho, Request.completedPort, Request.unfinished, hstate]

theorem faultsKept_recorded {records : List FaultRecord} (hs : FaultsKept s)
    (hfaults : t.faults = recorded s.faults records) (hdropped : t.dropped = dropsCounted s.faults records s.dropped) :
    FaultsKept t := by
  obtain ⟨hlength, hbound, hempty⟩ := hs
  unfold FaultsKept
  rw [hfaults, hdropped]
  unfold Config.faultRecords at *
  have hlen : (recorded s.faults records).length = s.faults.length + min (8 - s.faults.length) records.length := by
    simp [recorded]
  refine ⟨by omega, dropsCounted_le .., fun hpos hnil => ?_⟩
  rw [hnil] at hlen
  simp only [List.length_nil] at hlen
  have hnone : s.faults = [] := List.eq_nil_of_length_eq_zero (by omega)
  have hzero : s.dropped = 0 := Nat.eq_zero_of_not_pos fun h => hempty h hnone
  unfold dropsCounted at hpos
  rw [hnone, hzero] at hpos
  rw [hnone] at hlen
  simp only [List.length_nil] at hpos hlen
  omega

/-! ### The queues and the work -/

theorem queueOf_drain (s : State) (target : Target) : queueOf (drain s) target = [] := by
  cases target with
  | station i => exact queue_drain s i
  | broadcast =>
    unfold queueOf
    rw [broadcastQueue_drain]
    rfl

theorem home_drain (s : State) (x : EntryRef) : home (drain s) x = none := by
  cases x with
  | request u => exact home_of_finished fun _ => request_drain_finished
  | posted p => exact home_of_free (postedEntry_drain s p)

theorem queuesExact_drain (s : State) : QueuesExact (drain s) := by
  rw [queuesExact_iff]
  exact ⟨fun target x => by simp [queueOf_drain, home_drain], fun target => by simp [queueOf_drain]⟩

theorem ordersRising_drain (ho : OrdersRising s) : OrdersRising (drain s) := by
  obtain ⟨-, -, hrequests, -⟩ := ho
  have hnext : (drain s).nextOrder = s.nextOrder := by rw [drain_fields]
  refine ⟨fun i => by simp [queue_drain], by simp [broadcastQueue_drain], fun u => ?_, fun p => by
    rw [postedEntry_drain]; rfl⟩
  rw [hnext, request_drain]
  cases hq : drainedRow (s.request u) with
  | none => rfl
  | some q =>
    obtain ⟨r, hr, -, rfl⟩ := drainedRow_cases hq
    have := hrequests u
    rw [hr] at this
    split <;> simpa using this

theorem not_active_drain (s : State) (x : EntryRef) : ¬ isActive (drain s) x := by
  intro h
  cases x with
  | request u =>
    obtain ⟨q, hq, hactive⟩ := (Option.any_eq_true ..).mp h
    rw [active_of_finished q (request_drain_finished hq)] at hactive
    cases hactive
  | posted p =>
    obtain ⟨e, he, -⟩ := (Option.any_eq_true ..).mp h
    rw [postedEntry_drain] at he
    cases he

theorem rowsCounted_drain (hs : RowsCounted s) : RowsCounted (drain s) := by
  refine ⟨fun u => ?_, fun p => by rw [postedEntry_drain]; rfl⟩
  rw [request_drain]
  cases hq : drainedRow (s.request u) with
  | none => rfl
  | some q =>
    obtain ⟨r, hr, -, rfl⟩ := drainedRow_cases hq
    have hc := counts_of_request hs hr
    split
    · exact counts_done (by decide) hc
    · exact hc

theorem poolUsed_drain (s : State) : (drain s).poolUsed = 0 := by
  rw [poolUsed_eq_sum]
  exact Finset.sum_eq_zero fun p _ => by rw [postedEntry_drain]; rfl

theorem windowEntries_drain (s : State) : (drain s).windowEntries ≤ s.windowEntries := by
  refine windowEntries_le_of_rows fun u hu => ?_
  rw [request_drain] at hu
  obtain ⟨q, hq, hw⟩ := (Option.any_eq_true ..).mp hu
  obtain ⟨r, hr, ho, rfl⟩ := drainedRow_cases hq
  split at hw <;> simp [ofWindow, ho] at hw

theorem tablesKept_drain (s : State) : TablesKept s (drain s) where
  completions := completionsExact_drain
  attention hs := by
    have h : (drain s).attention = s.attention := by rw [drain_fields]
    unfold AttentionKept
    rw [h]
    exact hs
  faults hs := faultsKept_recorded hs (faults_drain hs.2.1).1 (faults_drain hs.2.1).2
  pool _ := by unfold PoolKept; rw [poolUsed_drain]; exact Nat.zero_le _
  quota hs := (windowEntries_drain s).trans hs
  oneOpen _ p q hp := by rw [postedEntry_drain] at hp; cases hp
  staging hs := by
    have h : (drain s).staging = s.staging := by rw [drain_fields]
    unfold StagingKept
    rw [h]
    exact hs
  settings hs := by
    have h : (drain s).settings = s.settings := by rw [drain_fields]
    rw [h]
    exact hs
  attempts hs := by unfold AttemptsKept; rw [exchange_drain]; exact hs
  polls _ i := by rw [station_drain]; exact ⟨fun _ => ⟨rfl, rfl⟩, fun _ => rfl⟩
  queues _ := queuesExact_drain s
  orders _ := ordersRising_drain

theorem linkKept_drain (hx : s.exchange = none) : LinkKept s (drain s) where
  scheduler _ := by
    have h1 : (drain s).highPosition = 0 := by rw [drain_fields]
    have h2 : (drain s).lowPosition = 0 := by rw [drain_fields]
    have h3 : (drain s).starvation = 0 := by rw [drain_fields]
    unfold SchedulerKept
    rw [h1, h2, h3]
    decide
  down _ _ := ⟨(exchange_drain s).trans hx, fun i => ⟨by rw [station_drain]; rfl, queue_drain s i⟩⟩
  pass _ _ hlink := by rw [link_drain] at hlink; cases hlink
  online _ _ _ i _ := queue_drain s i

theorem onlyHeadsBusy_drain (s : State) : OnlyHeadsBusy (drain s) := by
  rw [onlyHeadsBusy_iff]
  intro target x hx
  rw [queueOf_drain] at hx
  cases hx

theorem ownerStands_of_idle (hx : t.exchange = none) (hactive : ∀ x, ¬ isActive t x) : OwnerStands t :=
  ownerStands_iff.mpr ⟨fun x h => (by rw [hx] at h; cases h), fun y hy => absurd hy (hactive y)⟩

theorem wordsDoneKept_of_idle (hx : t.exchange = none) (hrows : RowsCounted t) : WordsDoneKept t :=
  wordsDoneKept_iff.mpr ⟨hrows, by rw [hx]; rfl⟩

theorem stepKept_drain (hx : s.exchange = none) : StepKept s (drain s) where
  tables := tablesKept_drain s
  work :=
    { heads := fun _ _ _ => onlyHeadsBusy_drain s
      owner := fun _ _ _ => ownerStands_of_idle ((exchange_drain s).trans hx) (not_active_drain s)
      words := fun _ hw =>
        wordsDoneKept_of_idle ((exchange_drain s).trans hx) (rowsCounted_drain (wordsDoneKept_iff.mp hw).1) }
  link := linkKept_drain hx

end Sys2Proof.Proofs
end

section
/-! PROOFS. What the report commands, the link commands, the resets and the tick keep. -/

namespace Sys2Proof.Proofs

open Sys2Proof.Machine Sys2Proof.Claims

variable {B W Q : Prop} {s t : State}

/-! ### The NEXT commands -/

/-- Dropping the oldest tag is no change of the Request Table where its entry is not DONE; the Completion List holds no such
tag. -/
theorem effects_dropTag {u : Tag} {rest : List Tag} (hl : s.completionList = u :: rest)
    (hnot : ∀ r status, s.request u = some r → r.state ≠ .done status) :
    Effects B W Q s { s with completionList := rest } := by
  refine .one (.rows s s.requests rest (fun w => rowKept_of_same rfl) fun hs => ?_)
  have hmem := (hs.2 u).mp (hl ▸ List.mem_cons_self)
  obtain ⟨r, hr, hdone⟩ := (Option.any_eq_true ..).mp hmem
  unfold Request.completedPort at hdone
  split at hdone
  next _ status _ hstate => exact absurd hstate (hnot r status hr)
  next => cases hdone

theorem done_sameWork {r : Request} {status : Status} (h : r.state = .done status) :
    SameWork r { r with state := .delivered status } where
  station := rfl
  order := rfl
  window := rfl
  unfinished := by simp [Request.unfinished, h]
  count := rfl
  wordsDone := rfl
  busy := nofun
  carries kind := by cases kind <;> simp [Request.carries, h]
  active := nofun
  counts hc := by
    obtain ⟨hcount, hmodify, hsuccess, -⟩ := counts_iff.mp hc
    refine counts_iff.mpr ⟨hcount, hmodify, fun hd => hsuccess (.inl ?_), nofun⟩
    rcases hd with hd | hd <;> cases hd
    exact h

theorem effects_deliver {u : Tag} {rest : List Tag} {r : Request} {status : Status} (hl : s.completionList = u :: rest)
    (hr : s.request u = some r) (hstate : r.state = .done status) :
    Effects B W Q s
      { s with completionList := rest, requests := s.requests.set u (some { r with state := .delivered status }) } := by
  have hrow : ∀ w, (s.putRequest u (some { r with state := .delivered status })).request w = _ :=
    fun w => request_putRequest s u w _
  refine .one (.rows s _ rest (fun w => ?_) fun hs => ?_)
  · show RowKept _ ((s.putRequest u (some { r with state := .delivered status })).request w)
    rw [hrow]
    split
    next he => subst he; rw [hr]; exact .kept (done_sameWork hstate)
    next => exact rowKept_of_same rfl
  · obtain ⟨hnodup, hmem⟩ := hs
    rw [hl] at hnodup hmem
    obtain ⟨hu, hnodup⟩ := List.nodup_cons.mp hnodup
    refine ⟨hnodup, fun w => ?_⟩
    show w ∈ rest ↔ ((s.putRequest u (some { r with state := .delivered status })).request w).any _ = true
    rw [hrow]
    split
    next he =>
      subst he
      simp only [hu, Option.any_some, false_iff]
      unfold Request.completedPort
      split <;> simp_all
    next he =>
      rw [← hmem w, List.mem_cons]
      exact ⟨.inr, fun h => h.resolve_left (Ne.symm he)⟩

theorem steady_nextCompletion : Steady s (nextCompletion s) := by
  unfold nextCompletion
  split
  next => exact (effects_setResult _).steady
  next u rest hl =>
    dsimp only
    have hdrop : (∀ r status, s.request u = some r → r.state ≠ .done status) →
        Steady s ({ s with completionList := rest }.setResult .accepted) :=
      fun hnot => Effects.steady ((effects_dropTag hl hnot).trans (effects_setResult _))
    cases hr : s.request u with
    | none => exact hdrop fun r status h => by rw [hr] at h; cases h
    | some r =>
      dsimp only
      cases hstate : r.state with
      | done status =>
        refine Steady.trans (Effects.steady ((effects_deliver hl hr hstate).trans
          (effects_registers (t := { s with
            completionList := rest, requests := s.requests.set u (some { r with state := .delivered status })
            dataPosition := 0, result := .accepted }) rfl id))) ?_
        exact steady_registers rfl
      | queued | active | waiting _ | parked _ | delivered _ =>
        exact hdrop fun q status h => by cases hr.symm.trans h; rw [hstate]; nofun

theorem effects_backlogPollsDue : Effects B W Q s (backlogPollsDue s) := by
  refine effects_stations rfl fun i => ?_
  rw [show (backlogPollsDue s).station i = _ from tabulate_get _ i]
  dsimp only
  split
  · exact makePollDue_standing _
  · exact ⟨rfl, rfl, id⟩

theorem itemsKept_tail {item : AttentionItem} {rest : List AttentionItem} (h : ItemsKept (item :: rest)) :
    ItemsKept rest := by
  obtain ⟨hlength, hpair, hocc⟩ := h
  simp only [List.length_cons] at hlength
  exact ⟨by omega, (List.pairwise_cons.mp hpair).2, fun a ha => hocc a (List.mem_cons_of_mem item ha)⟩

theorem steady_nextAttention : Steady s (nextAttention s) := by
  unfold nextAttention
  split
  next => exact (effects_setResult _).steady
  next item rest hl =>
    have h1 : Steady s { s with attention := rest } :=
      (Effects.one (.attention s rest fun hs =>
        itemsKept_tail (show ItemsKept (item :: rest) from hl ▸ (show ItemsKept s.attention from hs)))).steady
    refine h1.trans (Steady.trans ?_ (Effects.steady (effects_backlogPollsDue.trans (effects_setResult _))))
    exact steady_registers rfl

theorem faultsKept_tail {f : FaultRecord} {rest : List FaultRecord} (hl : s.faults = f :: rest) (hs : FaultsKept s) :
    FaultsKept { s with faults := rest, dropped := if rest.isEmpty then 0 else s.dropped } := by
  obtain ⟨hlength, hbound, -⟩ := hs
  rw [hl, List.length_cons] at hlength
  refine ⟨by dsimp only; omega, ?_, fun hpos hnil => ?_⟩
  · dsimp only
    split
    · exact Nat.zero_le _
    · exact hbound
  · have hnil : rest = [] := hnil
    simp [hnil] at hpos

theorem steady_nextFault : Steady s (nextFault s) := by
  unfold nextFault
  split
  next => exact (effects_setResult _).steady
  next f rest hl =>
    refine Steady.trans (Effects.steady ((Effects.one
      (.faults s rest (if rest.isEmpty then 0 else s.dropped) (faultsKept_tail hl))).trans
        (effects_setResult .accepted))) ?_
    exact steady_registers rfl

/-! ### Link commands -/

/-- The link leaves DOWN, or moves between the states in which it is not DOWN. -/
theorem steady_link {link : LinkState} {pass : List StationId} (hlink : link ≠ .down)
    (hpass : DownIsQuiet s → PassKept s → PassKept { s with link := link, pass := pass }) :
    Steady s { s with link := link, pass := pass } :=
  (retained_of_stations (t := { s with link := link, pass := pass }) rfl).steady
    ⟨id, fun _ h => absurd h hlink, hpass, fun _ _ => id⟩

theorem expectedStations_nodup (g : Settings) : g.expectedStations.Nodup := (List.nodup_finRange 14).filter _

theorem steady_linkStart : Steady s (linkStart s) := by
  unfold linkStart
  split
  next hdown =>
    split
    next =>
      refine (steady_link (s := s) (link := .up) (pass := []) nofun fun _ _ => nofun).trans ?_
      exact Effects.steady (effects_latchLink.trans (effects_setResult _))
    next i rest hmask =>
      refine (steady_link (s := s) (link := .enumerating) (pass := i :: rest) nofun fun hquiet _ _ => ?_).trans
        (effects_setResult _).steady
      obtain ⟨hidle, habsent⟩ := hquiet hdown
      refine ⟨hmask ▸ expectedStations_nodup _, fun j _ => ?_, ?_⟩
      · show (s.station j).state ≠ .online
        rw [(habsent j).1]
        nofun
      · show s.exchange.all _ = true
        rw [hidle]
        rfl
  next => exact (effects_setResult _).steady

theorem stepKept_drainIfIdle : StepKept s (drainIfIdle s) := by
  unfold drainIfIdle
  split
  next h => exact stepKept_drain h.2
  next => exact (Steady.refl s).stepKept

theorem stepKept_linkStop : StepKept s (linkStop s) := by
  have hdrains : StepKept s (drainIfIdle ({ s with link := .draining }.setResult .accepted)) := by
    have h1 : Steady s { s with link := .draining } := steady_link (pass := s.pass) nofun fun _ _ => nofun
    exact (h1.trans (effects_setResult _).steady).then stepKept_drainIfIdle
  unfold linkStop
  cases s.link with
  | down | draining => exact (effects_setResult _).steady.stepKept
  | enumerating | up => exact hdrains

theorem withStation_cases (f : StationId → State → State) (s : State) :
    withStation f s = s.setResult .badStation ∨ ∃ i, withStation f s = f i s := by
  unfold withStation
  split
  next => exact .inl rfl
  next i _ => exact .inr ⟨i, rfl⟩

/-- A station that is not ONLINE changes to another state that is not ONLINE, while the link is not DOWN. -/
theorem steady_stationState {i : StationId} {state : StationState} (hlink : s.link ≠ .down)
    (hafter : state ≠ .online)
    (hbefore : PassKept s → (s.station i).state ≠ .online) :
    Steady s (s.updateStation i fun st => { st with state := state }) := by
  have hst : ∀ j, (s.updateStation i fun st => { st with state := state }).station j =
      if i = j then { s.station i with state := state } else s.station j := fun j => by
    rw [station_updateStation]
  have hqueue : ∀ j, ((s.updateStation i fun st => { st with state := state }).station j).queue = (s.station j).queue :=
    fun j => by
      rw [hst]
      split
      next h => subst h; rfl
      next => rfl
  have hstate : ∀ j, (s.station j).state ≠ .online →
      ((s.updateStation i fun st => { st with state := state }).station j).state ≠ .online := fun j hj => by
    rw [hst]
    split
    · exact hafter
    · exact hj
  refine Retained.steady ⟨rfl, hqueue, fun j hp => ?_⟩
    ⟨id, fun _ h => absurd h hlink, fun _ hp hl => ?_, fun _ hp ho j hj => ?_⟩
  · rw [hst]
    split
    next h => subst h; exact hp
    next => exact hp
  · obtain ⟨hnodup, hoff, hx⟩ := hp hl
    exact ⟨hnodup, fun j hj => hstate j (hoff j hj), hx⟩
  · rw [hqueue]
    refine ho j fun hon => ?_
    by_cases h : i = j
    · subst h
      exact hbefore hp hon
    · rw [hst, if_neg h] at hj
      exact hj hon

theorem steady_stationRejoin : Steady s (stationRejoin s) := by
  unfold stationRejoin
  rcases withStation_cases _ s with h | ⟨i, h⟩ <;> rw [h]
  · exact (effects_setResult _).steady
  · split
    next hup =>
      have hchanges : (s.station i).state ≠ .online →
          Steady s ((s.updateStation i fun st => { st with state := .probing }).setResult .accepted) := fun hoff =>
        (steady_stationState (state := .probing) (by rw [hup]; nofun) nofun fun _ => hoff).trans (effects_setResult _).steady
      cases hstate : (s.station i).state with
      | online | probing => exact (effects_setResult _).steady
      | lost | absent => exact hchanges (by rw [hstate]; nofun)
    next => exact (effects_setResult _).steady

end Sys2Proof.Proofs
end

section
/-! PROOFS. The state after a reset: every invariant holds of it. -/

namespace Sys2Proof.Proofs

open Sys2Proof.Machine Sys2Proof.Claims

variable {s t : State}

/-- Every table is FREE, every list empty, every station record as after reset, the engine IDLE and the link DOWN. -/
structure Blank (t : State) : Prop where
  requests : ∀ u, t.request u = none
  posted : ∀ p, t.postedEntry p = none
  stations : ∀ i, t.station i = Station.reset
  broadcastQueue : t.broadcastQueue = []
  completionList : t.completionList = []
  attention : t.attention = []
  faults : t.faults = []
  dropped : t.dropped = 0
  staging : t.staging.data = []
  exchange : t.exchange = none
  link : t.link = .down
  highPosition : t.highPosition = 0
  lowPosition : t.lowPosition = 0
  starvation : t.starvation = 0

/-- The block as after pin reset, whatever the registers that a reset may keep hold. -/
theorem blank_of_reset
    (h : t =
      { State.reset with
        pending := t.pending, command := t.command, settings := t.settings, enables := t.enables
        stationSelect := t.stationSelect, portWaiting := t.portWaiting, dataOut := t.dataOut
        holdInput := t.holdInput, resetInput := t.resetInput }) : Blank t := by
  have hrequests : t.requests = Vector.replicate 16 none := by rw [h]; rfl
  have hposted : t.posted = Vector.replicate 16 none := by rw [h]; rfl
  have hstations : t.stations = Vector.replicate 14 Station.reset := by rw [h]; rfl
  refine ⟨fun u => ?_, fun p => ?_, fun i => ?_, ?_, ?_, ?_, ?_, ?_, ?_, ?_, ?_, ?_, ?_, ?_⟩
  · simp [State.request, hrequests]
  · simp [State.postedEntry, hposted]
  · simp [State.station, hstations]
  all_goals (rw [h]; rfl)

section Blank

variable (h : Blank t)
include h

theorem Blank.queue (target : Target) : queueOf t target = [] := by
  cases target with
  | station i => exact congrArg Station.queue (h.stations i)
  | broadcast => unfold queueOf; rw [h.broadcastQueue]; rfl

theorem Blank.home (x : EntryRef) : Proofs.home t x = none := by
  cases x with
  | request u => exact home_of_finished fun r hr => by rw [h.requests] at hr; cases hr
  | posted p => exact home_of_free (h.posted p)

theorem Blank.queuesExact : QueuesExact t := by
  rw [queuesExact_iff]
  exact ⟨fun target x => by simp [h.queue, h.home], fun target => by simp [h.queue]⟩

theorem Blank.ordersRising : OrdersRising t := by
  refine ⟨fun i => ?_, by simp [h.broadcastQueue], fun u => by rw [h.requests]; rfl, fun p => by rw [h.posted]; rfl⟩
  rw [h.stations]
  exact .nil

theorem Blank.onlyHeadsBusy : OnlyHeadsBusy t := by
  rw [onlyHeadsBusy_iff]
  intro target x hx
  rw [h.queue] at hx
  cases hx

theorem Blank.ownerStands : OwnerStands t := by
  refine ownerStands_of_idle h.exchange fun x hx => ?_
  cases x with
  | request u => obtain ⟨r, hr, -⟩ := (Option.any_eq_true ..).mp hx; rw [h.requests] at hr; cases hr
  | posted p => obtain ⟨e, he, -⟩ := (Option.any_eq_true ..).mp hx; rw [h.posted] at he; cases he

theorem Blank.completionsExact : CompletionsExact t :=
  ⟨by simp [h.completionList], fun u => by simp [h.completionList, h.requests]⟩

theorem Blank.attentionKept : AttentionKept t := by
  unfold AttentionKept
  rw [h.attention]
  exact ⟨Nat.zero_le _, .nil, nofun⟩

theorem Blank.faultsKept : FaultsKept t := by
  unfold FaultsKept
  rw [h.faults, h.dropped]
  exact ⟨Nat.zero_le _, Nat.zero_le _, nofun⟩

theorem Blank.poolKept : PoolKept t := by
  unfold PoolKept
  rw [poolUsed_eq_sum, Finset.sum_eq_zero fun p _ => by rw [h.posted]; rfl]
  exact Nat.zero_le _

theorem Blank.windowQuotaKept : WindowQuotaKept t := by
  unfold WindowQuotaKept
  rw [windowEntries_eq, List.countP_eq_zero.mpr fun u _ => by rw [h.requests]; nofun]
  exact Nat.zero_le _

theorem Blank.oneOpen : OneOpen t := fun p q hp => by rw [h.posted] at hp; cases hp

theorem Blank.stagingKept : StagingKept t := by
  unfold StagingKept
  rw [h.staging]
  exact Nat.zero_le _

theorem Blank.schedulerKept : SchedulerKept t := by
  unfold SchedulerKept
  rw [h.highPosition, h.lowPosition, h.starvation]
  exact ⟨Nat.zero_le _, Nat.zero_le _, Nat.zero_le _⟩

theorem Blank.attemptsKept : AttemptsKept t := by
  unfold AttemptsKept
  rw [h.exchange]
  rfl

theorem Blank.pollsKept : PollsKept t := fun i => by
  rw [h.stations]
  exact ⟨fun _ => ⟨rfl, rfl⟩, fun _ => rfl⟩

theorem Blank.downIsQuiet : DownIsQuiet t := fun _ =>
  ⟨h.exchange, fun i => by rw [h.stations]; exact ⟨rfl, rfl⟩⟩

theorem Blank.wordsDoneKept : WordsDoneKept t :=
  wordsDoneKept_of_idle h.exchange ⟨fun u => by rw [h.requests]; rfl, fun p => by rw [h.posted]; rfl⟩

theorem Blank.passKept : PassKept t := fun hl => by rw [h.link] at hl; cases hl

theorem Blank.onlineQueuesOnly : OnlineQueuesOnly t := fun i _ => by rw [h.stations]; rfl

/-- Whatever was before, a reset leaves the invariants standing. -/
theorem Blank.stepKept (hsettings : SettingsInRange s.settings → SettingsInRange t.settings) : StepKept s t where
  tables :=
    { completions := fun _ => h.completionsExact, attention := fun _ => h.attentionKept
      faults := fun _ => h.faultsKept, pool := fun _ => h.poolKept, quota := fun _ => h.windowQuotaKept
      oneOpen := fun _ => h.oneOpen, staging := fun _ => h.stagingKept, settings := hsettings
      attempts := fun _ => h.attemptsKept, polls := fun _ => h.pollsKept, queues := fun _ => h.queuesExact
      orders := fun _ _ => h.ordersRising }
  work :=
    { heads := fun _ _ _ => h.onlyHeadsBusy, owner := fun _ _ _ => h.ownerStands, words := fun _ _ => h.wordsDoneKept }
  link :=
    { scheduler := fun _ => h.schedulerKept, down := fun _ => h.downIsQuiet, pass := fun _ _ => h.passKept
      online := fun _ _ _ => h.onlineQueuesOnly }

end Blank

theorem settingsInRange_reset : SettingsInRange Settings.reset := by
  unfold SettingsInRange Settings.reset
  decide

theorem stepKept_pinReset : StepKept s (pinReset s) :=
  (blank_of_reset (t := pinReset s) rfl).stepKept fun _ => settingsInRange_reset

theorem stepKept_controllerReset : StepKept s (controllerReset s) :=
  (blank_of_reset (t := controllerReset s) rfl).stepKept id

end Sys2Proof.Proofs
end

section
/-! PROOFS. What a grant takes, and what the beginning of an exchange keeps. -/

namespace Sys2Proof.Proofs

open Sys2Proof.Machine Sys2Proof.Claims

variable {s t : State}

/-! ### What a candidate is -/

/-- The work a candidate stands for: it is the head of the queue, in the state its exchange begins from. -/
inductive Takeable (s : State) (i : StationId) : Candidate → Prop
  | identify : Takeable s i .identify
  | poll : Takeable s i .poll
  | abandon {u : Tag} {r : Request} {part : ParkPart} (hhead : (s.station i).queue.head? = some (.request u))
      (hr : s.request u = some r) (hstate : r.state = .parked part) : Takeable s i (.abandon u)
  | collect {u : Tag} {r : Request} {part : ParkPart} (hhead : (s.station i).queue.head? = some (.request u))
      (hr : s.request u = some r) (hstate : r.state = .parked part) : Takeable s i (.collect u)
  | modifyWrite {u : Tag} {r : Request} (hhead : (s.station i).queue.head? = some (.request u))
      (hr : s.request u = some r) (hstate : r.state = .queued) : Takeable s i (.modifyWrite u)
  | requestSegment {u : Tag} {r : Request} (hhead : (s.station i).queue.head? = some (.request u))
      (hr : s.request u = some r) (hstate : r.state = .queued) : Takeable s i (.requestSegment u)
  | postedSegment {p : PostedIndex} {e : Posted} (hhead : (s.station i).queue.head? = some (.posted p))
      (he : s.postedEntry p = some e) (hstate : e.state = .queued ∨ e.state = .opened) : Takeable s i (.postedSegment p)

theorem takeable_of_urgent {i : StationId} {c : Candidate} (h : s.urgentCandidate i = some c) : Takeable s i c := by
  unfold State.urgentCandidate at h
  split at h
  next u hhead =>
    split at h
    next r hr =>
      split at h
      next part hstate =>
        split at h
        next => cases h; exact .abandon hhead hr hstate
        next =>
          split at h
          · cases h; exact .collect hhead hr hstate
          · cases h
      next hstate =>
        split at h
        · cases h; exact .modifyWrite hhead hr hstate
        · cases h
      all_goals cases h
    next => cases h
  all_goals cases h

theorem takeable_of_segment {i : StationId} {c : Candidate} (h : s.segmentCandidate i = some c) : Takeable s i c := by
  unfold State.segmentCandidate at h
  split at h
  next u hhead =>
    split at h
    next r hr =>
      split at h
      next hif => cases h; exact .requestSegment hhead hr hif.1
      next => cases h
    next => cases h
  next p hhead =>
    split at h
    next e he =>
      split at h
      next hif => cases h; exact .postedSegment hhead he hif.1
      next => cases h
    next => cases h
  next => cases h

theorem takeable_of_candidate {i : StationId} {c : Candidate} (h : s.candidate i = some c) : Takeable s i c := by
  unfold State.candidate at h
  split at h
  next => cases h; exact .identify
  next =>
    split at h
    next c' hc => cases h; exact takeable_of_urgent hc
    next =>
      split at h
      next => cases h; exact .poll
      next => exact takeable_of_segment h
  all_goals cases h

/-! ### The beginning of an exchange -/

theorem tablesKept_begin (kind : ExchangeKind) (owner : Owner) (destination : Target) (frame : List Word) :
    TablesKept s (beginExchange kind owner destination frame s) where
  completions := id
  attention := id
  faults := id
  pool := id
  quota := id
  oneOpen := id
  staging := id
  settings := id
  attempts _ := by
    have hlt := s.settings.retryLimit.isLt
    show (some _).all _ = true
    simp only [Option.all_some, Bool.and_eq_true, decide_eq_true_eq]
    omega
  polls := id
  queues := id
  orders _ := id

/-- The conditions under which an exchange that begins after a change of its owner's row fits the queues: the owner is
the head that becomes busy. -/
structure Begins (s t : State) (x : Exchange) : Prop where
  idle : s.exchange = none
  exchange : t.exchange = some x
  phase : x.phaseOfKind = true
  queue : ∀ target, queueOf t target = queueOf s target
  busy : ∀ y, t.busy y = true → s.busy y = true ∨ ∃ target, (queueOf s target).head? = some y
  active : ∀ y, isActive t y → isActive s y ∨ x.owner = ownerOf y
  stands : QueuesExact s → t.ownerStands x = true
  rows : RowsCounted s → RowsCounted t
  fits : RowsCounted s → t.segmentFits x = true

/-- A head stands in the tail of no queue. -/
theorem not_mem_tail_of_head {target other : Target} {y : EntryRef} (hs : QueuesExact s)
    (hhead : (queueOf s target).head? = some y) : y ∉ (queueOf s other).tail := by
  obtain ⟨hmem, hnodup⟩ := queuesExact_iff.mp hs
  intro hy
  have h1 := (hmem target y).mp (List.mem_of_mem_head? hhead)
  have h2 := (hmem other y).mp (List.mem_of_mem_tail hy)
  cases Option.some.inj (h1.symm.trans h2)
  cases hq : queueOf s target with
  | nil => rw [hq] at hhead; cases hhead
  | cons z l =>
    rw [hq] at hhead hy
    cases hhead
    exact (List.nodup_cons.mp (hq ▸ hnodup target)).1 hy

theorem Begins.workKept {x : Exchange} (h : Begins s t x) : WorkKept s t where
  heads hq hb _ := by
    rw [onlyHeadsBusy_iff] at *
    intro target y hy
    rw [h.queue] at hy
    refine Bool.eq_false_iff.mpr fun hbusy => ?_
    rcases h.busy y hbusy with hold | ⟨other, hhead⟩
    · rw [hb target y hy] at hold
      cases hold
    · exact not_mem_tail_of_head hq hhead hy
  owner hq _ ho := by
    refine ownerStands_iff.mpr ⟨fun z hz => ?_, fun y hy => ⟨x, h.exchange, ?_⟩⟩
    · cases h.exchange.symm.trans hz
      exact ⟨h.stands hq, h.phase⟩
    · rcases h.active y hy with hold | hnew
      · obtain ⟨z, hz, -⟩ := (ownerStands_iff.mp ho).2 y hold
        rw [h.idle] at hz
        cases hz
      · exact hnew
  words _ hw := by
    rw [wordsDoneKept_iff] at *
    refine ⟨h.rows hw.1, ?_⟩
    rw [h.exchange]
    exact h.fits hw.1

/-- An exchange begins without a change of its owner's row. -/
theorem begins_of_row {x : Exchange} (hidle : s.exchange = none) (ht : t = { s with exchange := some x })
    (hphase : x.phaseOfKind = true) (hstands : QueuesExact s → s.ownerStands x = true)
    (hfits : RowsCounted s → s.segmentFits x = true) : Begins s t x := by
  subst ht
  exact ⟨hidle, rfl, hphase, fun _ => rfl, fun y hy => .inl hy, fun y hy => .inl hy, hstands, id, hfits⟩

/-- Beginning an exchange while the link is UP touches no field the link's own invariants read but the exchange. -/
theorem linkKept_begin (hup : s.link = .up) (ht : t.link = s.link)
    (hscheduler : SchedulerKept s → SchedulerKept t)
    (hstations : ∀ i, (t.station i).state = (s.station i).state ∧ (t.station i).queue = (s.station i).queue) :
    LinkKept s t where
  scheduler := hscheduler
  down _ hd := by rw [ht, hup] at hd; cases hd
  pass _ _ hl := by rw [ht, hup] at hl; cases hl
  online _ _ ho i hi := by
    rw [(hstations i).2]
    exact ho i ((hstations i).1 ▸ hi)

/-! ### Rows that become ACTIVE -/

/-- A queued request entry becomes ACTIVE: nothing the tables read changes. -/
theorem tablesKept_activate {u : Tag} {r : Request} (hr : s.request u = some r) (hstate : r.state = .queued) :
    TablesKept s (s.putRequest u (some { r with state := .active })) := by
  have hrow := fun w => request_putRequest s u w (some { r with state := .active })
  have hchange : QueueChange s (s.putRequest u (some { r with state := .active })) :=
    queueChange_putRequest hr (by simp [Request.unfinished, hstate]) rfl
  exact
    { completions := fun hs => completionsExact_of_row hs rfl hrow
        (by simp [hr, Request.completedPort, hstate]) (by simp [Request.completedPort])
      attention := id, faults := id, pool := id, oneOpen := id, staging := id, settings := id, attempts := id, polls := id
      quota := fun hs => le_trans (windowEntries_le_of_row hrow fun h => by rw [hr]; exact h) hs
      queues := hchange.queuesExact
      orders := ordersRising_of_change hchange (placesKept_of_same rfl fun x n =>
        orderPlace_request_of_row hrow rfl fun h => by rw [orderPlace, hr]; exact h) }

/-- A posted entry becomes ACTIVE, closed if it was OPEN: nothing the tables read changes. -/
theorem tablesKept_activatePosted {p : PostedIndex} {e : Posted} (he : s.postedEntry p = some e) :
    TablesKept s (s.putPosted p (some { e with state := .active })) := by
  have hrow := fun q => postedEntry_putPosted s p q (some { e with state := .active })
  have hchange : QueueChange s (s.putPosted p (some { e with state := .active })) := queueChange_putPosted he rfl
  exact
    { completions := id, attention := id, faults := id, quota := id, staging := id, settings := id, attempts := id
      polls := id
      pool := fun hs => by
        have hused := poolUsed_of_row hrow
        have hwords : wordsOf (some { e with state := .active }) = wordsOf (s.postedEntry p) := by rw [he]; rfl
        have hs : s.poolUsed ≤ Config.poolWords := hs
        show State.poolUsed _ ≤ _
        omega
      oneOpen := fun hs => oneOpen_of_rows (fun q hq => by
        rw [hrow] at hq
        split at hq
        next => rw [isOpen_some] at hq; cases hq
        next => exact hq) hs
      queues := hchange.queuesExact
      orders := ordersRising_of_change hchange (placesKept_of_same rfl fun x n =>
        orderPlace_posted_of_row hrow rfl fun h => by rw [orderPlace, he]; exact h) }

/-! ### Frames -/

/-- NOPARK is bit 2 of the header word (R57). -/
theorem headerWord_nopark (destination : Nat) (type : BitVec 4) (flags : FrameFlags) :
    (headerWord destination type flags).getLsbD 2 = flags.nopark := by
  simp only [headerWord, BitVec.getLsbD_append]
  simp

theorem parkable_writeFrame (kind : ExchangeKind) (n : Nat) (flags : FrameFlags) (address : Word) (data : List Word)
    (x : Exchange) (hx : x.frame = writeFrame kind n flags address data) : x.parkable = !flags.nopark := by
  unfold Exchange.parkable
  rw [hx]
  simp only [writeFrame, sealed, List.cons_append, List.headD_cons, headerWord_nopark]

theorem count_writeFrame_le (kind : ExchangeKind) (n : Nat) (flags : FrameFlags) (address : Word) (data : List Word)
    (x : Exchange) (hx : x.frame = writeFrame kind n flags address data) : x.count ≤ data.length := by
  unfold Exchange.count
  rw [hx]
  simp only [writeFrame, sealed, List.cons_append, List.nil_append, List.getD_cons_succ, List.getD_cons_zero, field, BitVec.toNat_ofNat]
  exact Nat.mod_le _ _

theorem count_readFrame_le (kind : ExchangeKind) (n : Nat) (flags : FrameFlags) (address : Word) (count : Nat)
    (x : Exchange) (hx : x.frame = readFrame kind n flags address count) : x.count ≤ count := by
  unfold Exchange.count
  rw [hx]
  simp only [readFrame, sealed, List.cons_append, List.nil_append, List.getD_cons_succ, List.getD_cons_zero, field, BitVec.toNat_ofNat]
  exact Nat.mod_le _ _

end Sys2Proof.Proofs
end

section
/-! PROOFS. What a grant and the enumeration pass keep. -/

namespace Sys2Proof.Proofs

open Sys2Proof.Machine Sys2Proof.Claims

variable {s t : State}

/-! ### A request entry's next segment or phase -/

theorem nextFrame_carries (r : Request) (st : Station) :
    { r with state := .active }.carries (r.nextFrame st).1 = true := by
  unfold Request.nextFrame
  dsimp only
  split
  next => rfl
  next => rfl
  next m hm => split <;> simp [Request.carries, hm]

theorem nextFrame_count_le {r : Request} {st : Station} {x : Exchange} (hkind : x.kind = (r.nextFrame st).1)
    (hframe : x.frame = (r.nextFrame st).2) (hsegment : x.kind = .readSegment ∨ x.kind = .writeSegment) :
    x.count ≤ r.count - r.wordsDone := by
  unfold Request.nextFrame at hkind hframe
  dsimp only at hkind hframe
  split at hkind
  next hk =>
    rw [hk] at hframe
    exact (count_readFrame_le _ _ _ _ _ x hframe).trans (Nat.min_le_right ..)
  next hk =>
    rw [hk] at hframe
    refine (count_writeFrame_le _ _ _ _ _ x hframe).trans ?_
    exact (List.length_take_le _ _).trans (Nat.min_le_right ..)
  next m hk =>
    split at hkind <;> (rw [hkind] at hsegment; rcases hsegment with h | h <;> cases h)

theorem home_of_head {i : StationId} {y : EntryRef} (hs : QueuesExact s) (hhead : (s.station i).queue.head? = some y) :
    home s y = some (.station i) :=
  ((queuesExact_iff.mp hs).1 (.station i) y).mp (List.mem_of_mem_head? hhead)

/-- The fit of a segment, said of the row of its owner. -/
theorem segmentFits_request {u : Tag} {r : Request} {x : Exchange} (howner : x.owner = .request u)
    (hr : t.request u = some r)
    (h : x.kind = .readSegment ∨ x.kind = .writeSegment → r.wordsDone + x.count ≤ r.count) : t.segmentFits x = true := by
  unfold State.segmentFits
  split
  next v hk ho => cases howner.symm.trans ho; simpa [hr] using h (.inl hk)
  next v hk ho => cases howner.symm.trans ho; simpa [hr] using h (.inr hk)
  next p _ ho => cases howner.symm.trans ho
  next => rfl

theorem segmentFits_posted {p : PostedIndex} {e : Posted} {x : Exchange} (howner : x.owner = .posted p)
    (he : t.postedEntry p = some e) (h : x.kind = .writeSegment → e.wordsDone + x.count ≤ e.count) :
    t.segmentFits x = true := by
  unfold State.segmentFits
  split
  next v _ ho => cases howner.symm.trans ho
  next v _ ho => cases howner.symm.trans ho
  next q hk ho => cases howner.symm.trans ho; simpa [he] using h hk
  next => rfl

/-- An exchange begins for a queued request entry at the head of its queue, which becomes ACTIVE. -/
theorem begins_request {i : StationId} {u : Tag} {r : Request} {x : Exchange} (hidle : s.exchange = none)
    (ht : t = { s.putRequest u (some { r with state := .active }) with exchange := some x })
    (hphase : x.phaseOfKind = true) (hhead : (s.station i).queue.head? = some (.request u))
    (hr : s.request u = some r) (hstate : r.state = .queued) (howner : x.owner = .request u)
    (hdestination : x.destination = .station r.station)
    (hcarries : { r with state := .active }.carries x.kind = true)
    (hfits : x.kind = .readSegment ∨ x.kind = .writeSegment → x.count ≤ r.count - r.wordsDone) : Begins s t x := by
  subst ht
  have hrow : ∀ w, ({ s.putRequest u (some { r with state := .active }) with exchange := some x } : State).request w =
      if u = w then some { r with state := .active } else s.request w := fun w => request_putRequest s u w _
  have hother : ∀ y : EntryRef, y ≠ .request u → ∀ f g,
      rowTest f g { s.putRequest u (some { r with state := .active }) with exchange := some x } y →
      rowTest f g s y := fun y hy f g hrowy => by
    cases y with
    | posted p => exact hrowy
    | request w =>
      have hw := hrow w
      rw [if_neg fun e => hy (by rw [e])] at hw
      unfold rowTest at hrowy ⊢
      dsimp only at hrowy ⊢
      rwa [hw] at hrowy
  have hactive : ({ s.putRequest u (some { r with state := .active }) with exchange := some x } : State).request u =
      some { r with state := .active } := (hrow u).trans (if_pos rfl)
  refine ⟨hidle, rfl, hphase, fun target => by cases target <;> rfl, fun y hy => ?_, fun y hy => ?_, fun hq => ?_,
    fun hw => ?_, fun hw => ?_⟩
  · by_cases h : y = .request u
    · exact .inr ⟨.station i, h ▸ hhead⟩
    · refine .inl ?_
      have := hother y h Request.inProgress Posted.inProgress
      cases y <;> exact this hy
  · by_cases h : y = .request u
    · exact .inr (h ▸ howner)
    · exact .inl (hother y h _ _ hy)
  · have hhome := (home_of_head hq hhead).symm.trans (home_of_request hr (unfinished_of_queued hstate))
    cases Option.some.inj hhome
    exact ownerStands_cases.mpr (.inl ⟨u, _, _, howner, hdestination, hhead, hactive, hcarries⟩)
  · refine request_counts_of_row hrow rfl ?_ hw
    have := counts_of_request hw hr
    simpa [Request.countsKept, hstate] using this
  · obtain ⟨hcount, -⟩ := counts_iff.mp (counts_of_request hw hr)
    refine segmentFits_request howner hactive fun hk => ?_
    have := hfits hk
    show r.wordsDone + x.count ≤ r.count
    omega

theorem stepKept_startRequest {i : StationId} {u : Tag} {r : Request} (hidle : s.exchange = none) (hup : s.link = .up)
    (hhead : (s.station i).queue.head? = some (.request u)) (hr : s.request u = some r) (hstate : r.state = .queued) :
    StepKept s (startRequest u s) := by
  unfold startRequest
  rw [hr]
  exact
    { tables := (tablesKept_activate hr hstate).trans (tablesKept_begin _ _ _ _)
      work := (begins_request hidle rfl rfl hhead hr hstate rfl rfl (nextFrame_carries _ _)
        (nextFrame_count_le rfl rfl)).workKept
      link := linkKept_begin hup rfl id fun _ => ⟨rfl, rfl⟩ }

/-! ### A posted entry's next segment, and the BROADCAST -/

/-- An exchange begins for a posted entry at the head of its queue, which becomes ACTIVE. -/
theorem begins_posted {target : Target} {p : PostedIndex} {e : Posted} {x : Exchange} (hidle : s.exchange = none)
    (ht : t = { s.putPosted p (some { e with state := .active }) with exchange := some x })
    (hphase : x.phaseOfKind = true) (hhead : (queueOf s target).head? = some (.posted p))
    (he : s.postedEntry p = some e) (howner : x.owner = .posted p) (hdestination : x.destination = target)
    (hkind : match target with
      | .station _ => x.kind = .writeSegment ∧ x.parkable = false
      | .broadcast => x.kind = .broadcast)
    (hfits : x.kind = .writeSegment → x.count ≤ e.count - e.wordsDone) : Begins s t x := by
  subst ht
  have hrow : ∀ q, ({ s.putPosted p (some { e with state := .active }) with exchange := some x } : State).postedEntry q =
      if p = q then some { e with state := .active } else s.postedEntry q := fun q => postedEntry_putPosted s p q _
  have hother : ∀ y : EntryRef, y ≠ .posted p → ∀ f g,
      rowTest f g { s.putPosted p (some { e with state := .active }) with exchange := some x } y →
      rowTest f g s y := fun y hy f g hrowy => by
    cases y with
    | request u => exact hrowy
    | posted q =>
      have hq := hrow q
      rw [if_neg fun e => hy (by rw [e])] at hq
      unfold rowTest at hrowy ⊢
      dsimp only at hrowy ⊢
      rwa [hq] at hrowy
  have hactive : ({ s.putPosted p (some { e with state := .active }) with exchange := some x } : State).postedEntry p =
      some { e with state := .active } := (hrow p).trans (if_pos rfl)
  refine ⟨hidle, rfl, hphase, fun target => by cases target <;> rfl, fun y hy => ?_, fun y hy => ?_, fun _ => ?_,
    fun hw => ?_, fun hw => ?_⟩
  · by_cases h : y = .posted p
    · exact .inr ⟨target, h ▸ hhead⟩
    · refine .inl ?_
      have := hother y h Request.inProgress Posted.inProgress
      cases y <;> exact this hy
  · by_cases h : y = .posted p
    · exact .inr (h ▸ howner)
    · exact .inl (hother y h _ _ hy)
  · cases target with
    | station i =>
      exact ownerStands_cases.mpr (.inr (.inl ⟨p, i, _, howner, hdestination, hhead, hkind.1, hkind.2, hactive, rfl⟩))
    | broadcast =>
      have hhead : s.broadcastQueue.head? = some p := by
        rw [queueOf, List.head?_map, Option.map_eq_some_iff] at hhead
        obtain ⟨q, hq, h⟩ := hhead
        cases h
        exact hq
      exact ownerStands_cases.mpr (.inr (.inr (.inl ⟨p, _, howner, hdestination, hhead, hkind, hactive, rfl⟩)))
  · refine posted_counts_of_row hrow rfl ?_ hw
    rw [Option.all_some, posted_counts_iff]
    have hcounts := posted_counts_iff.mp (counts_of_posted hw he)
    exact hcounts
  · obtain ⟨-, -, hdone⟩ := posted_counts_iff.mp (counts_of_posted hw he)
    refine segmentFits_posted howner hactive fun hk => ?_
    have := hfits hk
    show e.wordsDone + x.count ≤ e.count
    omega

theorem stepKept_startPosted {i : StationId} {p : PostedIndex} {e : Posted} (hidle : s.exchange = none)
    (hup : s.link = .up) (hhead : (s.station i).queue.head? = some (.posted p)) (he : s.postedEntry p = some e) :
    StepKept s (startPosted i p s) := by
  unfold startPosted
  rw [he]
  refine
    { tables := (tablesKept_activatePosted he).trans (tablesKept_begin _ _ _ _)
      work := (begins_posted (target := .station i) hidle rfl rfl hhead he rfl rfl
        ⟨rfl, (parkable_writeFrame _ _ _ _ _ _ rfl).trans rfl⟩ fun _ => ?_).workKept
      link := linkKept_begin hup rfl id fun _ => ⟨rfl, rfl⟩ }
  refine (count_writeFrame_le _ _ _ _ _ _ rfl).trans ?_
  exact (List.length_take_le _ _).trans (Nat.min_le_right ..)

theorem stepKept_startBroadcast {p : PostedIndex} (hidle : s.exchange = none) (hup : s.link = .up)
    (hhead : s.broadcastQueue.head? = some p) : StepKept s (startBroadcast p s) := by
  unfold startBroadcast
  cases he : s.postedEntry p with
  | none => exact (Steady.refl s).stepKept
  | some e =>
    exact
      { tables := (tablesKept_activatePosted he).trans (tablesKept_begin _ _ _ _)
        work := (begins_posted (target := .broadcast) hidle rfl rfl (by simp [queueOf, hhead]) he rfl rfl rfl
          fun h => (by cases h)).workKept
        link := linkKept_begin hup rfl id fun _ => ⟨rfl, rfl⟩ }

/-! ### Other exchanges -/

theorem stepKept_beginRow {kind : ExchangeKind} {owner : Owner} {destination : Target} {frame : List Word}
    (hidle : s.exchange = none) (hup : s.link = .up)
    (hstands : ∀ x : Exchange, x.kind = kind → x.owner = owner → x.destination = destination → s.ownerStands x = true)
    (hkind : kind ≠ .readSegment ∧ kind ≠ .writeSegment) :
    StepKept s (beginExchange kind owner destination frame s) where
  tables := tablesKept_begin _ _ _ _
  work := (begins_of_row hidle rfl rfl (fun _ => hstands _ rfl rfl rfl) fun _ => by
    unfold State.segmentFits
    split
    next hk _ => exact absurd hk hkind.1
    next hk _ => exact absurd hk hkind.2
    next hk _ => exact absurd hk hkind.2
    next => rfl).workKept
  link := linkKept_begin hup rfl id fun _ => ⟨rfl, rfl⟩

theorem ownerStands_station {i : StationId} {x : Exchange} (howner : x.owner = .station i)
    (hdestination : x.destination = .station i) (hkind : x.kind = .poll ∨ x.kind = .identify) : s.ownerStands x = true :=
  ownerStands_cases.mpr (.inr (.inr (.inr ⟨i, howner, hdestination, hkind⟩)))

theorem ownerStands_parked {i : StationId} {u : Tag} {r : Request} {part : ParkPart} {x : Exchange}
    (hhead : (s.station i).queue.head? = some (.request u)) (hr : s.request u = some r)
    (hstate : r.state = .parked part) (howner : x.owner = .request u) (hdestination : x.destination = .station i)
    (hkind : x.kind = .collect ∨ x.kind = .abandon) : s.ownerStands x = true := by
  refine ownerStands_cases.mpr (.inl ⟨u, i, r, howner, hdestination, hhead, hr, ?_⟩)
  rcases hkind with h | h <;> simp [h, Request.carries, hstate]

theorem pollTaken_standing (st : Station) : SameStanding st { st with pollDue := false, pollTimer := none } :=
  ⟨rfl, rfl, fun _ => ⟨fun _ => ⟨rfl, rfl⟩, fun _ => rfl⟩⟩

theorem stepKept_startCandidate {i : StationId} {c : Candidate} (hidle : s.exchange = none) (hup : s.link = .up)
    (hc : Takeable s i c) : StepKept s (startCandidate i c s) := by
  cases hc with
  | identify => exact stepKept_beginRow hidle hup (fun _ hk ho hd => ownerStands_station ho hd (.inr hk)) (by decide)
  | poll =>
    have hsteady : Steady s (s.updateStation i fun st => { st with pollDue := false, pollTimer := none }) :=
      (effects_updateStation (pollTaken_standing _)).steady
    exact hsteady.then (stepKept_beginRow hidle hup (fun _ hk ho hd => ownerStands_station ho hd (.inl hk)) (by decide))
  | abandon hhead hr hstate =>
    exact stepKept_beginRow hidle hup
      (fun _ hk ho hd => ownerStands_parked hhead hr hstate ho hd (.inr hk)) (by decide)
  | collect hhead hr hstate =>
    rename_i u r part
    simp only [startCandidate, State.updateRequest, hr, hstate]
    have hsteady : Steady s (s.putRequest u (some { r with state := .parked { part with collect := .stopped } })) :=
      (effects_putRequest hr (parked_sameWork hstate (by rfl) _ _) (completedPort_parked hstate _ _)).steady
    exact hsteady.then (stepKept_beginRow hidle hup
      (fun _ hk ho hd => ownerStands_parked (part := { part with collect := .stopped }) hhead
        ((request_putRequest s u u _).trans (if_pos rfl)) rfl ho hd (.inl hk)) (by decide))
  | modifyWrite hhead hr hstate | requestSegment hhead hr hstate => exact stepKept_startRequest hidle hup hhead hr hstate
  | postedSegment hhead he _ => exact stepKept_startPosted hidle hup hhead he

/-! ### GRANT and the pass -/

theorem broadcastCandidate_head {p : PostedIndex} (h : s.broadcastCandidate = some p) :
    s.broadcastQueue.head? = some p := by
  unfold State.broadcastCandidate at h
  split at h
  next => cases h
  next q rest hq =>
    split at h
    next => split at h <;> cases h; rw [hq]; rfl
    next => cases h

theorem stepKept_startMember (hidle : s.exchange = none) (hup : s.link = .up) (n : Nat) :
    StepKept s (startMember n s) := by
  unfold startMember
  split
  next i _ =>
    split
    next c hc => exact stepKept_startCandidate hidle hup (takeable_of_candidate hc)
    next => exact (Steady.refl s).stepKept
  next =>
    split
    next p hp => exact stepKept_startBroadcast hidle hup (broadcastCandidate_head hp)
    next => exact (Steady.refl s).stepKept

/-- The scheduler's fields move within their ranges. -/
theorem steady_scheduler {high low count : Nat} (h : SchedulerKept s → high ≤ 15 ∧ low ≤ 14 ∧ count ≤ 8) :
    Steady s { s with highPosition := high, lowPosition := low, starvation := count } :=
  (retained_of_stations rfl).steady ⟨h, id, fun _ => id, fun _ _ => id⟩

theorem mem_searchOrder_le {size position n : Nat} (h : n ∈ searchOrder size position) : 1 ≤ n ∧ n ≤ size := by
  obtain ⟨k, hk, rfl⟩ := List.mem_map.mp h
  have := Nat.mod_lt (position + k) (Nat.zero_lt_of_lt (List.mem_range.mp hk))
  omega

theorem stepKept_grantHigh {n count : Nat} (hidle : s.exchange = none) (hup : s.link = .up) (hn : n ≤ 15)
    (hcount : count ≤ 8) : StepKept s (grantHigh n count s) :=
  (steady_scheduler (low := s.lowPosition) fun hs => ⟨hn, hs.2.1, hcount⟩).then
    (stepKept_startMember (s := { s with highPosition := n, starvation := count }) hidle hup n)

theorem stepKept_grantLow {n : Nat} (hidle : s.exchange = none) (hup : s.link = .up) (hn : n ≤ 14) :
    StepKept s (grantLow n s) :=
  (steady_scheduler (high := s.highPosition) fun hs => ⟨hs.1, hn, Nat.zero_le _⟩).then
    (stepKept_startMember (s := { s with lowPosition := n, starvation := 0 }) hidle hup n)

theorem mayGrant_iff : s.mayGrant = true ↔ s.exchange = none ∧ s.link = .up ∧ s.holdInput = false := by
  simp [State.mayGrant, and_assoc]

theorem stepKept_schedule : StepKept s (schedule s) := by
  unfold schedule
  split
  next hmay =>
    obtain ⟨hidle, hup, -⟩ := mayGrant_iff.mp hmay
    have hhigh : ∀ n, s.highChoice = some n → n ≤ 15 := fun n h => (mem_searchOrder_le (List.mem_of_find?_eq_some h)).2
    have hlow : ∀ n, s.lowChoice = some n → n ≤ 14 := fun n h => (mem_searchOrder_le (List.mem_of_find?_eq_some h)).2
    split
    next h l hh hl =>
      split
      next hcount => exact stepKept_grantHigh hidle hup (hhigh h hh) hcount
      next => exact stepKept_grantLow hidle hup (hlow l hl)
    next h hh _ => exact stepKept_grantHigh hidle hup (hhigh h hh) (Nat.zero_le _)
    next l _ hl => exact stepKept_grantLow hidle hup (hlow l hl)
    next => exact (Steady.refl s).stepKept
  next => exact (Steady.refl s).stepKept

/-- The IDENTIFY of the pass begins for its first station. -/
theorem stepKept_beginIdentify {i : StationId} {frame : List Word} (hidle : s.exchange = none)
    (henumerating : s.link = .enumerating) (hhead : s.pass.head? = some i) :
    StepKept s (beginExchange .identify (.station i) (.station i) frame s) where
  tables := tablesKept_begin _ _ _ _
  work := (begins_of_row hidle rfl rfl (fun _ => ownerStands_station rfl rfl (.inr rfl)) fun _ => rfl).workKept
  link :=
    { scheduler := id
      down := fun _ hd => by
        have hd : s.link = .down := hd
        rw [henumerating] at hd
        cases hd
      pass := fun _ hp hl => by
        obtain ⟨hnodup, hoff, -⟩ := hp hl
        refine ⟨hnodup, hoff, ?_⟩
        simp [beginExchange, hhead]
      online := fun _ _ => id }

theorem stepKept_startIdentify : StepKept s (startIdentify s) := by
  unfold startIdentify
  split
  next h =>
    obtain ⟨henumerating, hidle, -⟩ := h
    split
    next => exact (Steady.refl s).stepKept
    next i rest hpass =>
      have hsteady : Steady s (s.updateStation i fun st => { st with state := .probing }) :=
        steady_stationState (by rw [henumerating]; nofun) nofun fun hp =>
          (hp henumerating).2.1 i (hpass ▸ List.mem_cons_self)
      refine hsteady.then (stepKept_beginIdentify hidle henumerating ?_)
      show s.pass.head? = some i
      rw [hpass]
      rfl
  next => exact (Steady.refl s).stepKept

end Sys2Proof.Proofs
end

section
/-! PROOFS. The end of an exchange: its outcome, the held access, the pass and the drain. -/

namespace Sys2Proof.Proofs

open Sys2Proof.Machine Sys2Proof.Claims

variable {B W Q : Prop} {s t s1 : State} {x : Exchange}

/-! ### What an outcome keeps -/

/-- The exchange in flight and its owner fit. -/
def Owned (s : State) (x : Exchange) : Prop := s.ownerStands x = true ∧ x.phaseOfKind = true

/-- The segment in flight fits as well. -/
def Fitted (s : State) (x : Exchange) : Prop := Owned s x ∧ s.segmentFits x = true

/-- The state once the exchange `x` has ended and its outcome has been applied, before the held access, the pass and the
drain are served. -/
structure Outcome (s t : State) (x : Exchange) : Prop where
  tables : TablesKept s t
  work : WorkKept s t
  idle : t.exchange = none
  frame : SameFrame s t
  state : ∀ i, (s.station i).state ≠ .online →
    (t.station i).state ≠ .online ∨ (x.kind = .identify ∧ x.owner = .station i)
  online : OnlineQueuesOnly s → OnlineQueuesOnly t

/-- The engine becomes IDLE. -/
def idled (s : State) : State := { s with exchange := none }

theorem sameFrame_idled (s : State) : SameFrame s (idled s) := ⟨rfl, rfl, rfl, rfl, rfl, rfl, rfl, rfl, rfl, rfl⟩

theorem tablesKept_idled (s : State) : TablesKept s (idled s) where
  completions := id
  attention := id
  faults := id
  pool := id
  quota := id
  oneOpen := id
  staging := id
  settings := id
  attempts _ := rfl
  polls := id
  queues := id
  orders _ := id

theorem isActive_idled {y : EntryRef} : isActive (idled s) y ↔ isActive s y := by cases y <;> rfl

theorem Effects.active_before (h : Effects B W Q s t) (y : EntryRef) : isActive t y → isActive s y :=
  h.keeps (P := fun a => isActive a y → isActive s y) (fun _ _ he hp ha => hp (he.active_before y ha)) id

/-- While an exchange is in flight only its owner is ACTIVE. -/
theorem ownerOf_active (ho : OwnerStands s) (hx : s.exchange = some x) {y : EntryRef} (hy : isActive s y) :
    x.owner = ownerOf y := by
  obtain ⟨z, hz, howner⟩ := (ownerStands_iff.mp ho).2 y hy
  cases hx.symm.trans hz
  exact howner

/-- A chain of effects after the engine became IDLE, at whose end the owner is not ACTIVE. -/
theorem outcome_of_effects (hx : s.exchange = some x) (h : Effects (Owned s x) (Fitted s x) True (idled s) t)
    (hrests : Owned s x → ∀ y, x.owner = ownerOf y → ¬ isActive t y) : Outcome s t x := by
  have hidle : t.exchange = none := h.exchange_none rfl
  have howned : OwnerStands s → Owned s x := fun ho => (ownerStands_iff.mp ho).1 x hx
  have hstand := h.standingKept
  have hinactive : OwnerStands s → ∀ y, ¬ isActive t y := fun ho y hy =>
    hrests (howned ho) y (ownerOf_active ho hx (isActive_idled.mp (h.active_before y hy))) hy
  refine ⟨(tablesKept_idled s).trans (h.tablesKept fun _ => trivial), ⟨fun hq hb ho => ?_, fun _ _ ho => ?_, fun ho hw => ?_⟩,
    hidle, (sameFrame_idled s).trans h.frame, fun i hi => .inl (by rw [hstand.state]; exact hi), fun hs i hi => ?_⟩
  · exact (h.keeps (P := fun s => QueuesExact s ∧ OnlyHeadsBusy s)
      (fun _ _ he hs => ⟨he.queuesExact hs.1, he.onlyHeadsBusy (howned ho) hs.1 hs.2⟩) ⟨hq, hb⟩).2
  · exact ownerStands_of_idle hidle (hinactive ho)
  · obtain ⟨hrows, hfits⟩ := wordsDoneKept_iff.mp hw
    rw [hx, Option.all_some] at hfits
    exact wordsDoneKept_of_idle hidle
      (h.keeps (P := RowsCounted) (fun _ _ he hs => he.rowsCounted ⟨howned ho, hfits⟩ hs) hrows)
  · rw [hstand.state] at hi
    exact hstand.queue i hi (hs i hi)

/-- What follows the outcome in the same happening. -/
theorem Outcome.effects (h : Outcome s s1 x) (k : Effects True True True s1 t) : Outcome s t x := by
  have hsteady : TablesKept s1 t := k.tablesKept fun _ => trivial
  have hstand := k.standingKept
  refine ⟨h.tables.trans hsteady, ⟨fun hq hb ho => ?_, fun hq hb ho => ?_, fun ho hw => ?_⟩,
    k.exchange_none h.idle, h.frame.trans k.frame, fun i hi => by rw [hstand.state]; exact h.state i hi, fun hs i hi => ?_⟩
  · exact (k.keeps (P := fun s => QueuesExact s ∧ OnlyHeadsBusy s)
      (fun _ _ he hs => ⟨he.queuesExact hs.1, he.onlyHeadsBusy trivial hs.1 hs.2⟩)
      ⟨h.tables.queues hq, h.work.heads hq hb ho⟩).2
  · exact k.keeps (fun _ _ he => he.ownerStandsKept) (h.work.owner hq hb ho)
  · exact wordsDoneKept_of_idle (k.exchange_none h.idle)
      (k.keeps (P := RowsCounted) (fun _ _ he => he.rowsCounted trivial) (wordsDoneKept_iff.mp (h.work.words ho hw)).1)
  · rw [hstand.state] at hi
    exact hstand.queue i hi (h.online hs i hi)

/-- The record of a station changes after the outcome; with exact queues its queue is as the outcome left it. -/
theorem Outcome.stations (h : Outcome s s1 x) {v : Vector Station 14}
    (hqueue : QueuesExact s → ∀ i : StationId, v[i].queue = (s1.station i).queue)
    (hpoll : ∀ i : StationId, PollKept (s1.station i) → PollKept v[i])
    (hstate : ∀ i : StationId, (s1.station i).state ≠ .online →
      v[i].state ≠ .online ∨ (x.kind = .identify ∧ x.owner = .station i))
    (honline : OnlineQueuesOnly s1 → ∀ i : StationId, v[i].state ≠ .online → v[i].queue = []) :
    Outcome s { s1 with stations := v } x := by
  have hretained : QueuesExact s → Retained s1 { s1 with stations := v } := fun hq => ⟨rfl, hqueue hq, hpoll⟩
  exact
    { tables :=
        { completions := h.tables.completions, attention := h.tables.attention, faults := h.tables.faults
          pool := h.tables.pool, quota := h.tables.quota, oneOpen := h.tables.oneOpen, staging := h.tables.staging
          settings := h.tables.settings, attempts := h.tables.attempts
          polls := fun hs i => hpoll i (h.tables.polls hs i)
          queues := fun hq => (hretained hq).tablesKept.queues (h.tables.queues hq)
          orders := fun hq ho => (hretained hq).tablesKept.orders (h.tables.queues hq) (h.tables.orders hq ho) }
      work :=
        { heads := fun hq hb ho => (hretained hq).onlyHeadsBusy (h.work.heads hq hb ho)
          owner := fun hq hb ho => (hretained hq).ownerStands (h.work.owner hq hb ho)
          words := h.work.words }
      idle := h.idle
      frame := h.frame.trans ⟨rfl, rfl, rfl, rfl, rfl, rfl, rfl, rfl, rfl, rfl⟩
      state := fun i hi => (h.state i hi).elim (hstate i) .inr
      online := fun hs => honline (h.online hs) }

/-! ### The held access, the pass and the drain -/

/-- The pass moves on or stands (R45). -/
theorem advancePass_cases (x : Exchange) (s : State) :
    (¬(x.kind = .identify ∧ s.link = .enumerating) ∧ advancePass x s = s) ∨
      (x.kind = .identify ∧ s.link = .enumerating ∧
        ((s.pass.tail = [] ∧ advancePass x s = { s with pass := [], link := .up }.latchLink) ∨
          (s.pass.tail ≠ [] ∧ advancePass x s = { s with pass := s.pass.tail }))) := by
  unfold advancePass
  split
  next h =>
    refine .inr ⟨h.1, h.2, ?_⟩
    split
    next ht => exact .inl ⟨ht, rfl⟩
    next i rest ht => exact .inr ⟨by rw [ht]; nofun, by rw [ht]⟩
  next h => exact .inl ⟨h, rfl⟩

theorem Outcome.advance (h : Outcome s t x) (hx : s.exchange = some x) : StepKept s (advancePass x t) := by
  have hscheduler : SchedulerKept s → SchedulerKept t := fun hs => by
    unfold SchedulerKept at hs ⊢
    rwa [h.frame.highPosition, h.frame.lowPosition, h.frame.starvation]
  have hnotdown : DownIsQuiet s → t.link ≠ .down := fun hs hd => by
    obtain ⟨hidle, -⟩ := hs (h.frame.link ▸ hd)
    rw [hx] at hidle
    cases hidle
  rcases advancePass_cases x t with ⟨hnot, heq⟩ | ⟨hk, hl, ⟨ht, heq⟩ | ⟨ht, heq⟩⟩ <;> rw [heq]
  · refine ⟨h.tables, h.work, hscheduler, fun hs hd => absurd hd (hnotdown hs), fun _ hp hlink => ?_,
      fun _ _ => h.online⟩
    obtain ⟨-, -, hall⟩ := hp (h.frame.link ▸ hlink)
    rw [hx, Option.all_some, Bool.and_eq_true, decide_eq_true_eq] at hall
    exact absurd ⟨hall.1, hlink⟩ hnot
  · have hup : Steady t { t with pass := [], link := .up } := steady_link (link := .up) (pass := []) nofun fun _ _ => nofun
    have hsteady : Steady t ({ t with pass := [], link := .up } : State).latchLink := hup.trans effects_latchLink.steady
    refine ⟨h.tables.trans hsteady.tables,
      ⟨fun hq hb ho => hsteady.heads (h.tables.queues hq) (h.work.heads hq hb ho),
        fun hq hb ho => hsteady.owner (h.work.owner hq hb ho), fun ho hw => ?_⟩,
      hscheduler, fun _ => nofun, fun _ _ => nofun, fun _ _ => h.online⟩
    exact h.work.words ho hw
  · have hretained : Retained t { t with pass := t.pass.tail } := retained_of_stations rfl
    refine ⟨h.tables.trans hretained.tablesKept,
      ⟨fun hq hb ho => hretained.onlyHeadsBusy (h.work.heads hq hb ho),
        fun hq hb ho => hretained.ownerStands (h.work.owner hq hb ho), fun ho hw => h.work.words ho hw⟩,
      hscheduler, fun hs hd => absurd hd (hnotdown hs), fun _ hp hlink => ?_, fun _ _ => h.online⟩
    obtain ⟨hnodup, hoff, hall⟩ := hp (h.frame.link ▸ hl)
    rw [hx, Option.all_some, Bool.and_eq_true] at hall
    have hall := hall.2
    rw [← h.frame.pass] at hnodup hoff hall
    cases hpass : t.pass with
    | nil => rw [hpass] at ht; exact absurd rfl ht
    | cons i rest =>
      rw [hpass] at hnodup hoff hall
      obtain ⟨hi, hnodup⟩ := List.nodup_cons.mp hnodup
      refine ⟨hnodup, fun j hj => ?_, ?_⟩
      · rcases h.state j (hoff j (List.mem_cons_of_mem i hj)) with hst | ⟨-, howner⟩
        · exact hst
        · have howner' : x.owner = .station i := by simpa using hall
          cases howner.symm.trans howner'
          exact absurd hj hi
      · show t.exchange.all _ = true
        rw [h.idle]
        rfl

theorem exchange_advancePass (x : Exchange) (s : State) : (advancePass x s).exchange = s.exchange := by
  unfold advancePass
  split
  · split <;> rfl
  · rfl

/-- The end of an exchange keeps what its outcome keeps (R80, R149, R157, R45, R47). -/
theorem stepKept_end {outcome : State → State} (hx : s.exchange = some x) (h : Outcome s (outcome (idled s)) x) :
    StepKept s (endExchange x outcome s) := by
  have hadvance := (h.effects effects_settleHeld).advance hx
  have hidle : (advancePass x (settleHeld (outcome (idled s)))).exchange = none := by
    rw [exchange_advancePass]
    exact (h.effects effects_settleHeld).idle
  have hform : endExchange x outcome s = drainIfIdle (advancePass x (settleHeld (outcome (idled s)))) := rfl
  rw [hform]
  generalize advancePass x (settleHeld (outcome (idled s))) = t at hadvance hidle
  unfold drainIfIdle
  split
  next =>
    exact
      { tables := hadvance.tables.trans (tablesKept_drain t)
        work :=
          { heads := fun _ _ _ => onlyHeadsBusy_drain t
            owner := fun _ _ _ => ownerStands_of_idle ((exchange_drain t).trans hidle) (not_active_drain t)
            words := fun ho hw => wordsDoneKept_of_idle ((exchange_drain t).trans hidle)
              (rowsCounted_drain (wordsDoneKept_iff.mp (hadvance.work.words ho hw)).1) }
        link := hadvance.link.trans (linkKept_drain hidle) }
  next => exact hadvance

/-! ### The outcome REPLY -/

theorem toggled_standing (st : Station) : SameStanding st { st with toggle := !st.toggle } := ⟨rfl, rfl, id⟩

theorem effects_flipToggle : Effects B W Q s (flipToggle x s) := by
  unfold flipToggle
  split
  · split
    · exact effects_updateStation (toggled_standing _)
    · exact .refl
  · exact .refl

/-- The flip of the toggle touches the station records alone. -/
theorem flipToggle_fields (x : Exchange) (s : State) :
    flipToggle x s = { s with stations := (flipToggle x s).stations } := by
  unfold flipToggle
  split
  · split <;> rfl
  · rfl

theorem request_flipToggle (x : Exchange) (s : State) (u : Tag) : (flipToggle x s).request u = s.request u := by
  rw [flipToggle_fields]
  rfl

theorem postedEntry_flipToggle (x : Exchange) (s : State) (p : PostedIndex) :
    (flipToggle x s).postedEntry p = s.postedEntry p := by
  rw [flipToggle_fields]
  rfl

theorem exchange_flipToggle (x : Exchange) (s : State) : (flipToggle x s).exchange = s.exchange := by
  rw [flipToggle_fields]

theorem owned_request {u : Tag} (h : Owned s x) (howner : x.owner = .request u) {r : Request} (hr : s.request u = some r) :
    r.carries x.kind = true := by
  rcases ownerStands_cases.mp h.1 with ⟨v, i, q, ho, -, -, hq, hc⟩ | ⟨p, i, e, ho, -⟩ | ⟨p, e, ho, -⟩ | ⟨i, ho, -⟩ <;>
    cases howner.symm.trans ho
  cases hr.symm.trans hq
  exact hc

theorem owned_posted {p : PostedIndex} (h : Owned s x) (howner : x.owner = .posted p) :
    ((x.kind = .writeSegment ∧ x.parkable = false) ∨ x.kind = .broadcast) ∧
      ∀ e, s.postedEntry p = some e → e.state = .active := by
  rcases ownerStands_cases.mp h.1 with ⟨v, i, q, ho, -⟩ | ⟨q, i, e, ho, -, -, hk, hp, he, ha⟩ |
    ⟨q, e, ho, -, -, hk, he, ha⟩ | ⟨i, ho, -⟩ <;> cases howner.symm.trans ho
  · exact ⟨.inl ⟨hk, hp⟩, fun e' he' => by cases he.symm.trans he'; exact ha⟩
  · exact ⟨.inr hk, fun e' he' => by cases he.symm.trans he'; exact ha⟩

theorem ownerMeets_of_fitted {u : Tag} (howner : x.owner = .request u) {r : Request} (hr : s.request u = some r) :
    OwnerMeets (Owned s x) (Fitted s x) x r where
  carries h := owned_request h howner hr
  carriesToo h := owned_request h.1 howner hr
  fits h hk := by
    have hfits := h.2
    unfold State.segmentFits at hfits
    rcases hk with hk | hk <;> rw [hk, howner] at hfits <;> simpa [hr] using hfits

theorem enterOnline_eq (i : StationId) (f : Identity) (s : State) :
    enterOnline i f s =
      ({ s with
        stations := s.stations.set i
          { s.station i with
            state := .online, toggle := false, stationClass := f.stationClass, revision := f.revision
            maxBurst := f.maxBurst, parkCapable := f.parkCapable, attentionCapable := f.attentionCapable
            lastSequence := f.attentionBase, backlog := false, pollDue := f.attentionCapable
            pollTimer := none } } : State).latchStation := rfl

/-- The outcome REPLY, judged valid. -/
theorem outcome_reply {rc : Reception} {reply : Reply} (hx : s.exchange = some x)
    (hjudge : s.judgement x rc = some reply) : Outcome s (applyReply x reply (idled s)) x := by
  have hacc := judge_accepts hjudge
  have hflip : Effects (Owned s x) (Fitted s x) True (idled s) (flipToggle x (idled s)) := effects_flipToggle
  unfold applyReply
  dsimp only
  cases howner : x.owner with
  | request u =>
    obtain ⟨heffects, hrests⟩ := effects_ownerReply (B := Owned s x) (W := Fitted s x) (Q := True)
      (s := flipToggle x (idled s)) (u := u) (exchange_flipToggle x (idled s))
      (fun r hr => ownerMeets_of_fitted howner ((request_flipToggle x (idled s) u).symm.trans hr)) hacc
    refine outcome_of_effects hx (hflip.trans heffects) fun ho y hy => ?_
    rw [howner] at hy
    cases y with
    | posted p => cases hy
    | request v =>
      cases hy
      have := hrests fun r hr => owned_request ho howner ((request_flipToggle x (idled s) u).symm.trans hr)
      intro hactive
      obtain ⟨r, hr, ha⟩ := (Option.any_eq_true ..).mp hactive
      exact this r hr (by simpa using ha)
  | posted p =>
    obtain ⟨heffects, hrests⟩ := effects_postedReply (B := Owned s x) (W := Fitted s x) (Q := True)
      (s := flipToggle x (idled s)) (p := p) (x := x) (exchange_flipToggle x (idled s)) (fun e he => by
        have he : s.postedEntry p = some e := (postedEntry_flipToggle x (idled s) p).symm.trans he
        refine ⟨fun h => by simp [Posted.inProgress, (owned_posted h howner).2 e he], fun h => ?_⟩
        obtain ⟨⟨hk, -⟩ | hk, -⟩ := owned_posted h.1 howner
        · have hfits := h.2
          unfold State.segmentFits at hfits
          rw [hk, howner] at hfits
          simpa [he] using hfits
        · rw [hk] at hacc
          simp [acceptsReply] at hacc) hacc
    refine outcome_of_effects hx (hflip.trans heffects) fun ho y hy => ?_
    rw [howner] at hy
    cases y with
    | request u => cases hy
    | posted q =>
      cases hy
      obtain ⟨⟨hk, hp⟩ | hk, -⟩ := owned_posted ho howner
      · have := hrests hk hp
        intro hactive
        obtain ⟨e, he, ha⟩ := (Option.any_eq_true ..).mp hactive
        exact this e he (by simpa using ha)
      · rw [hk] at hacc
        simp [acceptsReply] at hacc
  | station i =>
    have hnone : ∀ {t}, Owned s x → ∀ y, x.owner = ownerOf y → ¬ isActive t y := fun _ y hy => by
      rw [howner] at hy
      cases y <;> cases hy
    have hchain : ∀ {t}, Effects (Owned s x) (Fitted s x) True (flipToggle x (idled s)) t → Outcome s t x := fun h =>
      outcome_of_effects hx (hflip.trans h) hnone
    cases reply with
    | identity f =>
      have hkind : x.kind = .identify := by cases hk : x.kind <;> simp [hk, acceptsReply, replyKind] at hacc ⊢
      show Outcome s (enterOnline i f _) x
      rw [enterOnline_eq]
      refine Outcome.effects ((hchain .refl).stations (fun _ j => ?_) (fun j hp => ?_) (fun j hj => ?_) fun ho j hj => ?_)
        effects_latchStation
      all_goals rw [vector_set_get] at *
      · split
        next h => subst h; rfl
        next => rfl
      · split
        next => exact ⟨fun hc => ⟨hc, rfl⟩, fun _ => rfl⟩
        next => exact hp
      · split
        next h => subst h; exact .inr ⟨hkind, howner⟩
        next => exact .inl hj
      · split
        next h => simp [h] at hj
        next h => rw [if_neg h] at hj; exact ho j hj
    | attn items more => exact hchain (effects_pollAttn i items more)
    | quiet => exact hchain (effects_pollQuiet i)
    | data _ | ack | nak _ | parked => exact hchain .refl


end Sys2Proof.Proofs
end

section
/-! PROOFS. The outcomes FAILED and SENT, and the events on the pair that end an attempt. -/

namespace Sys2Proof.Proofs

open Sys2Proof.Machine Sys2Proof.Claims

variable {B W Q : Prop} {s t : State} {x : Exchange}

/-! ### The LOST transition (R38) -/

theorem rests_freeRequest (s : State) (u : Tag) : Rests (freeRequest u s) u := by
  cases hr : s.request u with
  | none => rw [freeRequest_of_free hr]; exact rests_of_none hr
  | some r =>
    rw [freeRequest_eq_vacated hr]
    exact rests_of_none (by rw [request_vacated, if_pos rfl])

theorem postedRests_freePosted (s : State) (p : PostedIndex) (cause : Option FaultCause) :
    PostedRests (freePosted p cause s) p := by
  cases he : s.postedEntry p with
  | none => rw [freePosted_of_free he]; exact postedRests_of_none he
  | some e => rw [freePosted_eq_retired he]; exact postedRests_retired s p e _ _

/-- No completed entry is ACTIVE, whether it was unfinished or not. -/
theorem rests_completeRequest (s : State) (u : Tag) (status : Status) : Rests (completeRequest u status s) u := by
  cases hr : s.request u with
  | none => rw [completeRequest_finished status fun r h => by rw [hr] at h; cases h]; exact rests_of_none hr
  | some r =>
    cases hu : r.unfinished with
    | true => rw [completeRequest_eq_completed status hr hu]; exact rests_completed s u r status
    | false =>
      rw [completeRequest_finished status fun q hq => by cases hr.symm.trans hq; exact hu]
      intro q hq
      cases hr.symm.trans hq
      simpa using active_of_finished r hu

/-- The owner of a FAILED exchange is not ACTIVE any more. -/
theorem rests_loseOwner (s : State) (y : EntryRef) : ¬ isActive (loseOwner (ownerOf y) s) y := by
  intro hactive
  cases y with
  | request u =>
    obtain ⟨r, hr, ha⟩ := (Option.any_eq_true ..).mp hactive
    have hrests : Rests (loseOwner (.request u) s) u := by
      unfold loseOwner
      dsimp only
      split
      next =>
        split
        next => exact rests_freeRequest s u
        next => exact rests_completeRequest _ u .noResponse
      next h => exact rests_of_none h
    exact hrests r hr (by simpa using ha)
  | posted p =>
    obtain ⟨e, he, ha⟩ := (Option.any_eq_true ..).mp hactive
    exact postedRests_freePosted s p _ e he (by simpa using ha)

/-- With exact queues the head of a queue leaves it when its station is lost. -/
theorem queue_loseMember (hq : QueuesExact s) {i : StationId} {y : EntryRef} {rest : List EntryRef}
    (h : (s.station i).queue = y :: rest) : ((loseMember s y).station i).queue = rest := by
  have hmem : y ∈ (s.station i).queue := by rw [h]; exact List.mem_cons_self
  obtain ⟨hrequests, hposted, -⟩ := hq
  cases y with
  | request u =>
    obtain ⟨r, hr, hall⟩ := (Option.any_eq_true ..).mp ((hrequests i u).mp hmem)
    simp only [Bool.and_eq_true, decide_eq_true_eq] at hall
    obtain ⟨hu, hi⟩ := hall
    rw [loseMember, completeRequest_eq_completed .stationLost hr hu, station_completed, if_pos hi, hi]
    simp [h]
  | posted p =>
    obtain ⟨e, he, hi⟩ := (Option.any_eq_true ..).mp ((hposted i p).mp hmem)
    rw [decide_eq_true_eq] at hi
    rw [loseMember, freePosted_eq_retired he, station_retired, if_pos hi]
    simp [h]

/-- With exact queues the queue of a lost station runs empty (R38). -/
theorem queue_loseMembers {i : StationId} {members : List EntryRef} (hq : QueuesExact s) (hidle : s.exchange = none)
    (h : (s.station i).queue = members) : ((members.foldl loseMember s).station i).queue = [] := by
  induction members generalizing s with
  | nil => exact h
  | cons y rest ih =>
    have heffects : Effects True True True s (loseMember s y) := effects_loseMember hidle y
    exact ih (heffects.keeps (fun _ _ he => he.queuesExact) hq) (heffects.exchange_none hidle) (queue_loseMember hq h)

/-- The queue of the lost station is emptied before its record is written. -/
def membersLost (i : StationId) (owner : Owner) (s : State) : State :=
  ((loseOwner owner s).station i).queue.foldl loseMember (loseOwner owner s)

theorem effects_loseMembers (members : List EntryRef) (hidle : s.exchange = none) :
    Effects B W Q s (members.foldl loseMember s) := by
  induction members generalizing s with
  | nil => exact .refl
  | cons y rest ih =>
    have hone : Effects B W Q s (loseMember s y) := effects_loseMember hidle y
    exact hone.trans (ih (hone.exchange_none hidle))

theorem exchange_loseOwner (owner : Owner) (hidle : s.exchange = none) : (loseOwner owner s).exchange = none :=
  (effects_loseOwner (B := True) (W := True) (Q := True) owner hidle).exchange_none hidle

theorem queue_membersLost (i : StationId) (owner : Owner) (hidle : s.exchange = none) (hq : QueuesExact s) :
    ((membersLost i owner s).station i).queue = [] :=
  queue_loseMembers ((effects_loseOwner (B := True) (W := True) (Q := True) owner hidle).keeps
    (fun _ _ he => he.queuesExact) hq) (exchange_loseOwner owner hidle) rfl

theorem lostTransition_eq (i : StationId) (owner : Owner) (s : State) :
    lostTransition i owner s =
      ({ membersLost i owner s with
        stations := (membersLost i owner s).stations.set i
          { (membersLost i owner s).station i with
            state := .lost, toggle := false, pollTimer := none, pollDue := false, backlog := false
            queue := [] } } : State).latchStation := rfl

/-! ### The outcomes FAILED and SENT (R79, R83) -/

/-- The exchange a reply is awaited for goes to a station. -/
theorem destination_of_owned (h : Owned s x) (hphase : x.kind ≠ .broadcast) : x.destination ≠ .broadcast := by
  rcases ownerStands_cases.mp h.1 with ⟨v, i, q, -, hd, -⟩ | ⟨q, i, e, -, hd, -⟩ | ⟨q, e, -, -, -, hk, -⟩ | ⟨i, -, hd, -⟩
  · rw [hd]; nofun
  · rw [hd]; nofun
  · exact absurd hk hphase
  · rw [hd]; nofun

theorem outcome_failed (hx : s.exchange = some x) (hphase : Owned s x → x.kind ≠ .broadcast) :
    Outcome s (applyFailed x (idled s)) x := by
  unfold applyFailed
  cases hd : x.destination with
  | broadcast =>
    exact outcome_of_effects hx .refl fun ho => absurd hd (destination_of_owned ho (hphase ho))
  | station i =>
    have hidle : (idled s).exchange = none := rfl
    have howner : Effects (Owned s x) (Fitted s x) True (idled s) (loseOwner x.owner (idled s)) :=
      effects_loseOwner x.owner hidle
    have hmembers : Effects (Owned s x) (Fitted s x) True (loseOwner x.owner (idled s)) (membersLost i x.owner (idled s)) :=
      effects_loseMembers _ (exchange_loseOwner x.owner hidle)
    have hlost : Outcome s (membersLost i x.owner (idled s)) x :=
      outcome_of_effects hx (howner.trans hmembers) fun _ y hy hactive => by
        have := hmembers.active_before y hactive
        rw [hy] at this
        exact rests_loseOwner _ y this
    show Outcome s (lostTransition i x.owner (idled s)) x
    rw [lostTransition_eq]
    refine Outcome.effects (hlost.stations (fun hq j => ?_) (fun j hp => ?_) (fun j hj => ?_) fun ho j hj => ?_)
      effects_latchStation
    all_goals rw [vector_set_get] at *
    · split
      next h => subst h; exact (queue_membersLost i x.owner hidle ((tablesKept_idled s).queues hq)).symm
      next => rfl
    · split
      next => exact ⟨fun _ => ⟨rfl, rfl⟩, fun _ => rfl⟩
      next => exact hp
    · split
      next => exact .inl nofun
      next => exact .inl hj
    · split
      next => rfl
      next h => rw [if_neg h] at hj; exact ho j hj

theorem outcome_sent (hx : s.exchange = some x) (hphase : Owned s x → x.kind = .broadcast) :
    Outcome s (applySent x (idled s)) x := by
  have hother : Owned s x → ∀ y, x.owner = ownerOf y → ∃ p, x.owner = .posted p := fun ho y hy => by
    rcases ownerStands_cases.mp ho.1 with ⟨v, i, q, -, -, -, -, hc⟩ | ⟨q, i, e, hown, -⟩ | ⟨q, e, hown, -⟩ | ⟨i, hown, -⟩
    · rw [hphase ho] at hc
      simp [Request.carries] at hc
    · exact ⟨q, hown⟩
    · exact ⟨q, hown⟩
    · have := hy.symm.trans hown
      cases y <;> cases this
  unfold applySent
  cases howner : x.owner with
  | request u =>
    refine outcome_of_effects hx .refl fun ho y hy => ?_
    obtain ⟨p, hp⟩ := hother ho y hy
    cases howner.symm.trans hp
  | station i =>
    refine outcome_of_effects hx .refl fun ho y hy => ?_
    obtain ⟨p, hp⟩ := hother ho y hy
    cases howner.symm.trans hp
  | posted p =>
    dsimp only
    cases he : (idled s).postedEntry p with
    | none =>
      simp only [State.updatePosted, he]
      rw [freePosted_of_free he]
      refine outcome_of_effects hx .refl fun ho y hy => ?_
      rw [howner] at hy
      cases y <;> cases hy
      intro hactive
      obtain ⟨e, he', -⟩ := (Option.any_eq_true ..).mp hactive
      cases he.symm.trans he'
    | some e =>
      simp only [State.updatePosted, he]
      obtain ⟨heffects, hrests⟩ := postedEnds_freeChanged (B := Owned s x) (W := Fitted s x) (Q := True)
        (e' := { e with wordsDone := e.count }) he rfl (by rfl) none
      refine outcome_of_effects hx heffects fun ho y hy hactive => ?_
      rw [howner] at hy
      cases y <;> cases hy
      obtain ⟨f, hf, ha⟩ := (Option.any_eq_true ..).mp hactive
      exact hrests f hf (by simpa using ha)

/-! ### The events on the pair -/

theorem kind_of_window {n : Nat} (hp : x.phase = .window n) (h : Owned s x) : x.kind ≠ .broadcast := by
  have := h.2
  simpa [Exchange.phaseOfKind, hp] using this

theorem kind_of_receiving {rate : BitVec 2} (hp : x.phase = .receiving rate) (h : Owned s x) : x.kind ≠ .broadcast := by
  have := h.2
  simpa [Exchange.phaseOfKind, hp] using this

theorem kind_of_gap {n : Nat} (hp : x.phase = .gap n) (h : Owned s x) : x.kind = .broadcast := by
  have := h.2
  simpa [Exchange.phaseOfKind, hp] using this

theorem stepKept_attemptFailed (hx : s.exchange = some x) (hphase : Owned s x → x.kind ≠ .broadcast) :
    StepKept s (attemptFailed x s) := by
  unfold attemptFailed
  split
  next h => exact (Effects.steady (effects_repeated hx h)).stepKept
  next => exact stepKept_end hx (outcome_failed hx hphase)

theorem stepKept_receptionEnd (rc : Reception) (s : State) : StepKept s (receptionEnd rc s) := by
  unfold receptionEnd
  split
  next x hx =>
    split
    next hp =>
      split
      next reply hjudge => exact stepKept_end hx (outcome_reply hx hjudge)
      next => exact stepKept_attemptFailed hx (kind_of_receiving hp)
    all_goals exact (Steady.refl s).stepKept
  next => exact (Steady.refl s).stepKept

theorem stepKept_receptionOverrun (s : State) : StepKept s (receptionOverrun s) := by
  unfold receptionOverrun
  split
  next x hx =>
    split
    next hp => exact stepKept_attemptFailed hx (kind_of_receiving hp)
    all_goals exact (Steady.refl s).stepKept
  next => exact (Steady.refl s).stepKept

theorem stepKept_replyWindowClose (s : State) : StepKept s (replyWindowClose s) := by
  unfold replyWindowClose
  split
  next x hx =>
    split
    next hp => exact stepKept_attemptFailed hx (kind_of_window hp)
    all_goals exact (Steady.refl s).stepKept
  next => exact (Steady.refl s).stepKept

theorem stepKept_broadcastGapEnd (s : State) : StepKept s (broadcastGapEnd s) := by
  unfold broadcastGapEnd
  split
  next x hx =>
    split
    next hp => exact stepKept_end hx (outcome_sent hx (kind_of_gap hp))
    all_goals exact (Steady.refl s).stepKept
  next => exact (Steady.refl s).stepKept

end Sys2Proof.Proofs
end

section
/-! PROOFS. The walk over the rows of the table: what every command, every waiting access and the tick keep. -/

namespace Sys2Proof.Proofs

open Sys2Proof.Machine Sys2Proof.Claims

variable {B W Q : Prop} {s t u : State}

/-! ### The commands (R187) -/

/-- A command whose meaning is a chain of effects: it moves neither the link, nor a station's state, nor a report's
registers. -/
def HostCommand.plain : HostCommand → Bool
  | .submit | .stageClear | .cancel | .release | .stationHold | .stationResume | .stationFlush => true
  | .nextCompletion | .nextAttention | .nextFault | .linkStart | .linkStop | .stationRejoin | .controllerReset => false

theorem effects_commandEffect {c : HostCommand} (h : HostCommand.plain c = true) : Effects B W Q s (commandEffect c s) := by
  cases c with
  | submit => exact effects_submit
  | stageClear => exact effects_clearStage.trans (effects_setResult .accepted)
  | cancel => exact effects_cancel
  | release => exact effects_release
  | stationHold => exact effects_stationHold
  | stationResume => exact effects_stationResume
  | stationFlush => exact effects_stationFlush
  | nextCompletion | nextAttention | nextFault | linkStart | linkStop | stationRejoin | controllerReset => cases h

theorem stepKept_commandEffect (c : HostCommand) : StepKept s (commandEffect c s) := by
  cases c with
  | nextCompletion => exact steady_nextCompletion.stepKept
  | nextAttention => exact steady_nextAttention.stepKept
  | nextFault => exact steady_nextFault.stepKept
  | linkStart => exact steady_linkStart.stepKept
  | linkStop => exact stepKept_linkStop
  | stationRejoin => exact steady_stationRejoin.stepKept
  | controllerReset => exact stepKept_controllerReset
  | submit | stageClear | cancel | release | stationHold | stationResume | stationFlush =>
    exact (Effects.steady (effects_commandEffect rfl)).stepKept

theorem effects_command (code : Byte) : Effects B W Q s { s with command := code } := effects_registers rfl id

theorem stepKept_runCommand (c : HostCommand) : StepKept s (runCommand c s) :=
  (Effects.steady (effects_command (commandCode c))).then (stepKept_commandEffect c)

theorem effects_badCommand (code : Byte) : Effects B W Q s { s with command := code, result := .badCommand } :=
  effects_registers rfl id

theorem stepKept_commandWrite (code : Byte) : StepKept s (commandWrite code s) := by
  unfold commandWrite
  split
  next c _ => exact stepKept_runCommand c
  next => exact (Effects.steady (effects_badCommand code)).stepKept

/-! ### The host window (R184) -/

theorem effects_interruptCauseWrite (v : Word) : Effects B W Q s (interruptCauseWrite v s) := effects_registers rfl id

theorem effects_interruptEnableWrite (v : Word) : Effects B W Q s (interruptEnableWrite v s) := effects_registers rfl id

theorem effects_windowStatusWrite (v : Word) : Effects B W Q s (windowStatusWrite v s) := effects_registers rfl id

theorem effects_pageBaseWrite (v : Word) : Effects B W Q s (pageBaseWrite v s) :=
  Relation.ReflTransGen.trans (effects_settings (g := { s.settings with pageBase := v.extractLsb' 4 12 }) id)
    effects_closeOpen

theorem effects_prefetchWrite (v : Word) : Effects B W Q s (prefetchWrite v s) :=
  Relation.ReflTransGen.trans (effects_settings (g := { s.settings with prefetch := v.getLsbD 0 }) id) effects_closeOpen

theorem effects_writeLocation {location : BitVec 6} (h : location ≠ 0x03#6) (v : Word) :
    Effects B W Q s (writeLocation location v s) := by
  unfold writeLocation
  split
  next hcommand => exact absurd (BitVec.eq_of_toNat_eq hcommand) h
  · exact effects_stageDataWrite v
  · exact effects_interruptCauseWrite v
  · exact effects_interruptEnableWrite v
  · exact effects_windowStatusWrite v
  · exact effects_windowStationWrite v
  · exact effects_pageBaseWrite v
  · exact effects_prefetchWrite v
  · exact effects_timebaseWrite v
  · split
    · exact effects_apertureWrite _ v
    · exact effects_plainWrite location v

theorem stepKept_writeLocation (location : BitVec 6) (v : Word) : StepKept s (writeLocation location v s) := by
  by_cases h : location = 0x03#6
  · subst h
    exact stepKept_commandWrite (v.extractLsb' 0 8)
  · exact (Effects.steady (effects_writeLocation h v)).stepKept

theorem effects_readAccess (hQ : Q → WindowQuotaKept s) (location : BitVec 6) : Effects B W Q s (readAccess location s) := by
  unfold readAccess
  split
  · exact effects_registers rfl id
  · split
    · exact effects_apertureRead hQ _
    · exact effects_registers rfl id

theorem stepKept_takeAccess (a : HostAccess) : StepKept s (takeAccess a s) := by
  cases a with
  | read location => exact (Effects.steady (effects_readAccess id location)).stepKept
  | write location v => exact stepKept_writeLocation location v

/-- What reaches the port is ignored, waits there, or takes effect (R183). -/
theorem stepKept_onPort {a : HostAccess} {effect : State → State} (h : StepKept s (effect s)) :
    StepKept s (onPort a effect s) := by
  unfold onPort
  split
  · exact (Steady.refl s).stepKept
  · split
    · exact (steady_registers rfl).stepKept
    · exact h

theorem stepKept_effects (h : Effects True True (WindowQuotaKept s) s t) : StepKept s t := h.steady.stepKept

/-! ### Every row, and the step -/

/-- What every row keeps. -/
theorem stepKept_exec {c : Instr} (h : exec c s = .next t) : StepKept s t := by
  cases c with
  | submit | stageClear | cancel | nextCompletion | release | nextAttention | nextFault | linkStart | linkStop
  | stationHold | stationResume | stationFlush | stationRejoin | controllerReset =>
    cases h
    exact stepKept_onPort (stepKept_runCommand _)
  | badCommand code => cases h; exact stepKept_onPort (stepKept_commandWrite code)
  | stageDataWrite v => cases h; exact stepKept_onPort (stepKept_effects (effects_stageDataWrite v))
  | dataPortRead => cases h; exact stepKept_onPort (stepKept_effects (effects_readAccess id 0x13#6))
  | interruptCauseWrite v => cases h; exact stepKept_onPort (stepKept_effects (effects_interruptCauseWrite v))
  | interruptEnableWrite v => cases h; exact stepKept_onPort (stepKept_effects (effects_interruptEnableWrite v))
  | windowStatusWrite v => cases h; exact stepKept_onPort (stepKept_effects (effects_windowStatusWrite v))
  | windowStationWrite v => cases h; exact stepKept_onPort (stepKept_effects (effects_windowStationWrite v))
  | pageBaseWrite v => cases h; exact stepKept_onPort (stepKept_effects (effects_pageBaseWrite v))
  | prefetchWrite v => cases h; exact stepKept_onPort (stepKept_effects (effects_prefetchWrite v))
  | timebaseWrite v => cases h; exact stepKept_onPort (stepKept_effects (effects_timebaseWrite v))
  | registerWrite location v => cases h; exact stepKept_onPort (stepKept_writeLocation location v)
  | apertureRead offset => cases h; exact stepKept_onPort (stepKept_effects (effects_apertureRead id offset))
  | apertureWrite offset v => cases h; exact stepKept_onPort (stepKept_effects (effects_apertureWrite offset v))
  | pinReset => cases h; exact stepKept_pinReset
  | resetRelease | holdAsserted | holdReleased => cases h; exact stepKept_effects (effects_registers rfl id)
  | grant => cases h; exact stepKept_schedule
  | enumerationIdentifyStart => cases h; exact stepKept_startIdentify
  | frameBegin | pairActiveTimeout => cases h; exact stepKept_effects effects_beginFrame
  | frameSent => cases h; exact stepKept_effects effects_frameSent
  | receptionBegin => cases h; exact stepKept_effects effects_receptionBegin
  | receptionEnd rc => cases h; exact stepKept_receptionEnd rc s
  | receptionOverrun => cases h; exact stepKept_receptionOverrun s
  | replyWindowClose => cases h; exact stepKept_replyWindowClose s
  | broadcastGapEnd => cases h; exact stepKept_broadcastGapEnd s
  | discardedFrame _ => cases h; exact (Steady.refl s).stepKept
  | busyBackoffExpiry entry => cases h; exact stepKept_effects (effects_busyBackoffExpiry entry)
  | collectTimerExpiry u =>
    cases h
    exact stepKept_effects (effects_updateRequest fun r _ => collectExpired_sameWork r)
  | parkTimerExpiry u => cases h; exact stepKept_effects (effects_updateRequest fun r _ => parkExpired_sameWork r)
  | pollTimerExpiry i => cases h; exact stepKept_effects (effects_updateStation (pollExpired_standing _))
  | readHoldExpiry => cases h; exact stepKept_effects effects_expireReadHold
  | writeHoldExpiry => cases h; exact stepKept_effects effects_expireWriteHold
  | discardTimerExpiry u => cases h; exact stepKept_effects (effects_discardExpired u)
  | heldReadAnswered => cases h; exact stepKept_effects effects_answerHeldRead
  | heldWriteSpace => cases h; exact stepKept_effects effects_giveHeldWriteSpace
  | heldWriteStationLost => cases h; exact stepKept_effects effects_dropHeldWrite
  | drainEnd => cases h; exact stepKept_drainIfIdle
  | broadcastFrameSent => cases h; exact stepKept_effects effects_broadcastFrameSent

theorem stepKept_takeWaiting : StepKept s (takeWaiting s) := by
  unfold takeWaiting
  split
  next => exact (Steady.refl s).stepKept
  next a rest _ =>
    exact (steady_registers (t := { s with portWaiting := rest }) rfl).then (stepKept_takeAccess a)

theorem steady_tick : Steady s (tick s) := by
  rw [tick_eq]
  exact effects_ticked.steady.trans (steady_registers rfl)

/-- What every step keeps. -/
theorem stepKept_step (h : step s = .next t) : StepKept s t := by
  unfold step at h
  split at h
  next =>
    cases h
    unfold whenIdle
    split
    next => exact stepKept_takeWaiting
    next => exact steady_tick.stepKept
  next c rest _ => exact (steady_registers (t := { s with pending := rest }) rfl).then (stepKept_exec h)

/-! ### The obligations -/

/-- Settles O57: the queues are kept exact, in order and with only heads in progress, part of a step by part. -/
theorem queueDisciplineIsKept : Obligations.QueueDisciplineIsKept := by
  intro s t hstep hqueues
  have hkept := stepKept_step hstep
  exact ⟨hkept.tables.queues hqueues, hkept.tables.orders hqueues, fun hheads howner =>
    ⟨hkept.work.heads hqueues hheads howner, hkept.work.owner hqueues hheads howner⟩⟩

/-- Settles O58: each effect keeps the three lists. -/
theorem reportListsAreKept : Obligations.ReportListsAreKept := by
  intro s t hstep
  have hkept := stepKept_step hstep
  exact ⟨hkept.tables.completions, hkept.tables.attention, hkept.tables.faults⟩

/-- Settles O59: each effect keeps the capacities and ranges; the link commands, the beginning and the end of an exchange
keep what is said of the link. -/
theorem capacitiesAndRangesAreKept : Obligations.CapacitiesAndRangesAreKept := by
  intro s t hstep
  have hkept := stepKept_step hstep
  exact ⟨hkept.tables.pool, hkept.tables.quota, hkept.tables.oneOpen, hkept.tables.staging, hkept.tables.settings,
    hkept.link.scheduler, hkept.tables.attempts, hkept.tables.polls, hkept.link.down, hkept.work.words,
    fun hdown hpass => ⟨hkept.link.pass hdown hpass, hkept.link.online hdown hpass⟩⟩

/-- Settles O60: the reset state holds nothing. -/
theorem invariantsHoldAtReset : Obligations.InvariantsHoldAtReset := by
  have hblank : Blank State.reset := blank_of_reset rfl
  exact ⟨hblank.queuesExact, hblank.ordersRising, hblank.onlyHeadsBusy, hblank.ownerStands, hblank.completionsExact,
    hblank.attentionKept, hblank.faultsKept, hblank.poolKept, hblank.windowQuotaKept, hblank.oneOpen, hblank.stagingKept,
    settingsInRange_reset, hblank.schedulerKept, hblank.attemptsKept, hblank.pollsKept, hblank.downIsQuiet,
    hblank.wordsDoneKept, hblank.passKept, hblank.onlineQueuesOnly⟩

end Sys2Proof.Proofs
end

section
/-! PROOFS. The host port: each row that is a host access reaches the port as the access to its location (R183, R187). -/

namespace Sys2Proof.Proofs

open Sys2Proof.Machine Sys2Proof.Claims

variable {s t : State} {c : Instr} {a : HostAccess}

/-- A COMMAND row at the port is a write of its code to COMMAND (R187). -/
theorem exec_command (c : HostCommand) (s : State) :
    onPort (commandAccess c) (runCommand c) s = onPort (commandAccess c) (takeAccess (commandAccess c)) s := by
  rw [show takeAccess (commandAccess c) = runCommand c from funext (takeAccess_commandAccess c)]

theorem command_byte (code : Byte) : (0#8 ++ code : Word).extractLsb' 0 8 = code := by
  rw [BitVec.extractLsb'_append_eq_right]

theorem aperture_toNat (offset : BitVec 4) : (0b11#2 ++ offset : BitVec 6).toNat = 48 + offset.toNat := by
  rw [BitVec.toNat_append]
  have := offset.isLt
  rw [Nat.shiftLeft_eq, Nat.mul_comm, ← Nat.two_pow_add_eq_or_of_lt this]
  rfl

theorem aperture_offset (offset : BitVec 4) : (0b11#2 ++ offset : BitVec 6).extractLsb' 0 4 = offset := by
  rw [BitVec.extractLsb'_append_eq_right]

theorem readAccess_aperture (offset : BitVec 4) (s : State) :
    readAccess (0b11#2 ++ offset) s = apertureRead offset s := by
  unfold readAccess
  rw [aperture_toNat, aperture_offset]
  split
  next h => omega
  next => rw [if_pos (by omega)]

theorem writeLocation_aperture (offset : BitVec 4) (v : Word) (s : State) :
    writeLocation (0b11#2 ++ offset) v s = apertureWrite offset v s := by
  unfold writeLocation
  rw [aperture_toNat, aperture_offset]
  split
  case h_10 => rw [if_pos (by omega)]
  all_goals omega

/-- A host row reaches the port as the access to its location. -/
theorem exec_of_access (h : accessOf c = some a) (s : State) : exec c s = .next (onPort a (takeAccess a) s) := by
  cases c with
  | submit | stageClear | cancel | nextCompletion | release | nextAttention | nextFault | linkStart | linkStop
  | stationHold | stationResume | stationFlush | stationRejoin | controllerReset =>
    cases h
    exact congrArg Host.Outcome.next (exec_command _ s)
  | badCommand code =>
    cases h
    have hword : code.zeroExtend 16 = (0#8 ++ code : Word) := by
      exact BitVec.setWidth_eq_append (by decide)
    have heffect : commandWrite code = takeAccess (.write 0x03#6 (0#8 ++ code)) := by
      funext s
      show _ = commandWrite ((0#8 ++ code : Word).extractLsb' 0 8) s
      rw [command_byte]
    rw [← heffect, ← hword]
    rfl
  | stageDataWrite _ | dataPortRead | interruptCauseWrite _ | interruptEnableWrite _ | windowStatusWrite _
  | windowStationWrite _ | pageBaseWrite _ | prefetchWrite _ | timebaseWrite _ | registerWrite _ _ => cases h; rfl
  | apertureRead offset =>
    cases h
    have heffect : apertureRead offset = takeAccess (.read (0b11#2 ++ offset)) :=
      funext fun s => (readAccess_aperture offset s).symm
    rw [← heffect]
    rfl
  | apertureWrite offset v =>
    cases h
    have heffect : apertureWrite offset v = takeAccess (.write (0b11#2 ++ offset) v) :=
      funext fun s => (writeLocation_aperture offset v s).symm
    rw [← heffect]
    rfl
  | _ => cases h

theorem exec_of_access_ready (h : accessOf c = some a) (hready : PortReady s) : exec c s = .next (takeAccess a s) := by
  obtain ⟨hreset, haccess, hwaiting⟩ := hready
  rw [exec_of_access h, onPort_ready hreset haccess hwaiting]

/-- Settles O1: the step is defined so. -/
theorem stepRunsTheFrontCommand : Obligations.StepRunsTheFrontCommand := by
  intro s c rest hpending
  rw [step, hpending]

/-- Settles O5: the row's meaning at the port and the access to its location are the same function. -/
theorem hostAccessActsAsItsLocation : Obligations.HostAccessActsAsItsLocation :=
  fun _ _ _ haccess hready => exec_of_access_ready haccess hready

end Sys2Proof.Proofs
end

section
/-! PROOFS. What the rows leave alone: the queue of commands, the waiting accesses and the three latched records. -/

namespace Sys2Proof.Proofs

open Sys2Proof.Machine Sys2Proof.Claims

variable {s t u : State} {x : Exchange}

/-- The queue of commands and the waiting accesses stay. -/
structure SamePort (s t : State) : Prop where
  pending : t.pending = s.pending
  portWaiting : t.portWaiting = s.portWaiting

/-- The three latched records stay as well. -/
structure SameReports (s t : State) : Prop extends SamePort s t where
  completion : t.completion = s.completion
  attentionRecord : t.attentionRecord = s.attentionRecord
  faultRegisters : t.faultRegisters = s.faultRegisters

theorem SameReports.refl (s : State) : SameReports s s := ⟨⟨rfl, rfl⟩, rfl, rfl, rfl⟩

theorem SameReports.trans (h : SameReports s t) (k : SameReports t u) : SameReports s u :=
  ⟨⟨k.pending.trans h.pending, k.portWaiting.trans h.portWaiting⟩, k.completion.trans h.completion,
    k.attentionRecord.trans h.attentionRecord, k.faultRegisters.trans h.faultRegisters⟩

theorem SameFrame.sameReports (h : SameFrame s t) : SameReports s t :=
  ⟨⟨h.pending, h.portWaiting⟩, h.completion, h.attentionRecord, h.faultRegisters⟩

/-- A chain of effects leaves them alone. -/
theorem sameReports_effects (h : Effects True True True s t) : SameReports s t := h.frame.sameReports

/-! ### The link -/

theorem sameReports_drain (s : State) : SameReports s (drain s) := by
  rw [drain_fields]
  exact ⟨⟨rfl, rfl⟩, rfl, rfl, rfl⟩

theorem sameReports_drainIfIdle (s : State) : SameReports s (drainIfIdle s) := by
  unfold drainIfIdle
  split
  · exact sameReports_drain s
  · exact .refl s

theorem sameReports_linkStart (s : State) : SameReports s (linkStart s) := by
  unfold linkStart
  split
  · split <;> exact ⟨⟨rfl, rfl⟩, rfl, rfl, rfl⟩
  · exact ⟨⟨rfl, rfl⟩, rfl, rfl, rfl⟩

theorem sameReports_linkStop (s : State) : SameReports s (linkStop s) := by
  unfold linkStop
  cases s.link with
  | down | draining => exact ⟨⟨rfl, rfl⟩, rfl, rfl, rfl⟩
  | enumerating | up =>
    have h : SameReports s ({ s with link := .draining }.setResult .accepted) := ⟨⟨rfl, rfl⟩, rfl, rfl, rfl⟩
    exact h.trans (sameReports_drainIfIdle _)

theorem sameReports_stationRejoin (s : State) : SameReports s (stationRejoin s) := by
  unfold stationRejoin
  rcases withStation_cases _ s with h | ⟨i, h⟩ <;> rw [h]
  · exact ⟨⟨rfl, rfl⟩, rfl, rfl, rfl⟩
  · split
    next => cases (s.station i).state <;> exact ⟨⟨rfl, rfl⟩, rfl, rfl, rfl⟩
    next => exact ⟨⟨rfl, rfl⟩, rfl, rfl, rfl⟩

/-! ### Exchanges -/

theorem sameReports_startRequest (v : Tag) (s : State) : SameReports s (startRequest v s) := by
  unfold startRequest
  split <;> exact ⟨⟨rfl, rfl⟩, rfl, rfl, rfl⟩

theorem sameReports_updateRequest (v : Tag) (f : Request → Request) (s : State) : SameReports s (s.updateRequest v f) := by
  unfold State.updateRequest
  split <;> exact ⟨⟨rfl, rfl⟩, rfl, rfl, rfl⟩

theorem sameReports_startCandidate (i : StationId) (c : Candidate) (s : State) :
    SameReports s (startCandidate i c s) := by
  cases c with
  | identify | abandon _ | poll => exact ⟨⟨rfl, rfl⟩, rfl, rfl, rfl⟩
  | collect v =>
    exact (sameReports_updateRequest v _ s).trans ⟨⟨rfl, rfl⟩, rfl, rfl, rfl⟩
  | modifyWrite v | requestSegment v => exact sameReports_startRequest v s
  | postedSegment p =>
    unfold startCandidate startPosted
    dsimp only
    split <;> exact ⟨⟨rfl, rfl⟩, rfl, rfl, rfl⟩

theorem sameReports_startMember (n : Nat) (s : State) : SameReports s (startMember n s) := by
  unfold startMember
  split
  · split
    next c _ => exact sameReports_startCandidate _ c s
    next => exact .refl s
  · split
    next p _ =>
      unfold startBroadcast
      split <;> exact ⟨⟨rfl, rfl⟩, rfl, rfl, rfl⟩
    next => exact .refl s

theorem sameReports_grantHigh (n count : Nat) (s : State) : SameReports s (grantHigh n count s) :=
  SameReports.trans (t := { s with highPosition := n, starvation := count }) ⟨⟨rfl, rfl⟩, rfl, rfl, rfl⟩
    (sameReports_startMember n _)

theorem sameReports_grantLow (n : Nat) (s : State) : SameReports s (grantLow n s) :=
  SameReports.trans (t := { s with lowPosition := n, starvation := 0 }) ⟨⟨rfl, rfl⟩, rfl, rfl, rfl⟩
    (sameReports_startMember n _)

theorem sameReports_schedule (s : State) : SameReports s (schedule s) := by
  unfold schedule
  split
  · split
    · split
      · exact sameReports_grantHigh _ _ s
      · exact sameReports_grantLow _ s
    · exact sameReports_grantHigh _ _ s
    · exact sameReports_grantLow _ s
    · exact .refl s
  · exact .refl s

theorem sameReports_startIdentify (s : State) : SameReports s (startIdentify s) := by
  unfold startIdentify
  split
  · split <;> exact ⟨⟨rfl, rfl⟩, rfl, rfl, rfl⟩
  · exact .refl s

theorem sameReports_advancePass (x : Exchange) (s : State) : SameReports s (advancePass x s) := by
  unfold advancePass
  split
  · split <;> exact ⟨⟨rfl, rfl⟩, rfl, rfl, rfl⟩
  · exact .refl s

theorem sameReports_end {outcome : State → State} (h : Outcome s (outcome (idled s)) x) :
    SameReports s (endExchange x outcome s) :=
  h.frame.sameReports.trans ((sameReports_effects effects_settleHeld).trans
    ((sameReports_advancePass x _).trans (sameReports_drainIfIdle _)))

theorem sameReports_attemptFailed (hx : s.exchange = some x) (hphase : Owned s x → x.kind ≠ .broadcast) :
    SameReports s (attemptFailed x s) := by
  unfold attemptFailed
  split
  next h => exact sameReports_effects (effects_repeated hx h)
  next => exact sameReports_end (outcome_failed hx hphase)

theorem sameReports_receptionEnd (rc : Reception) (s : State) : SameReports s (receptionEnd rc s) := by
  unfold receptionEnd
  split
  next x hx =>
    split
    next hp =>
      split
      next reply hjudge => exact sameReports_end (outcome_reply hx hjudge)
      next => exact sameReports_attemptFailed hx (kind_of_receiving hp)
    all_goals exact .refl s
  next => exact .refl s

theorem sameReports_receptionOverrun (s : State) : SameReports s (receptionOverrun s) := by
  unfold receptionOverrun
  split
  next x hx =>
    split
    next hp => exact sameReports_attemptFailed hx (kind_of_receiving hp)
    all_goals exact .refl s
  next => exact .refl s

theorem sameReports_replyWindowClose (s : State) : SameReports s (replyWindowClose s) := by
  unfold replyWindowClose
  split
  next x hx =>
    split
    next hp => exact sameReports_attemptFailed hx (kind_of_window hp)
    all_goals exact .refl s
  next => exact .refl s

theorem sameReports_broadcastGapEnd (s : State) : SameReports s (broadcastGapEnd s) := by
  unfold broadcastGapEnd
  split
  next x hx =>
    split
    next hp => exact sameReports_end (outcome_sent hx (kind_of_gap hp))
    all_goals exact .refl s
  next => exact .refl s

/-- Every row that is no host access, but PIN_RESET. -/
theorem sameReports_exec {c : Instr} (h : exec c s = .next t) (hevent : accessOf c = none) (hpin : c ≠ .pinReset) :
    SameReports s t := by
  cases c with
  | pinReset => exact absurd rfl hpin
  | resetRelease | holdAsserted | holdReleased | discardedFrame _ => cases h; exact ⟨⟨rfl, rfl⟩, rfl, rfl, rfl⟩
  | grant => cases h; exact sameReports_schedule s
  | enumerationIdentifyStart => cases h; exact sameReports_startIdentify s
  | frameBegin | pairActiveTimeout => cases h; exact sameReports_effects effects_beginFrame
  | frameSent => cases h; exact sameReports_effects effects_frameSent
  | receptionBegin => cases h; exact sameReports_effects effects_receptionBegin
  | receptionEnd rc => cases h; exact sameReports_receptionEnd rc s
  | receptionOverrun => cases h; exact sameReports_receptionOverrun s
  | replyWindowClose => cases h; exact sameReports_replyWindowClose s
  | broadcastGapEnd => cases h; exact sameReports_broadcastGapEnd s
  | busyBackoffExpiry entry => cases h; exact sameReports_effects (effects_busyBackoffExpiry entry)
  | collectTimerExpiry u | parkTimerExpiry u => cases h; exact sameReports_updateRequest u _ s
  | pollTimerExpiry i => cases h; exact ⟨⟨rfl, rfl⟩, rfl, rfl, rfl⟩
  | readHoldExpiry => cases h; exact sameReports_effects effects_expireReadHold
  | writeHoldExpiry => cases h; exact sameReports_effects effects_expireWriteHold
  | discardTimerExpiry u => cases h; exact sameReports_effects (effects_discardExpired u)
  | heldReadAnswered => cases h; exact sameReports_effects effects_answerHeldRead
  | heldWriteSpace => cases h; exact sameReports_effects effects_giveHeldWriteSpace
  | heldWriteStationLost => cases h; exact sameReports_effects effects_dropHeldWrite
  | drainEnd => cases h; exact sameReports_drainIfIdle s
  | broadcastFrameSent => cases h; exact sameReports_effects effects_broadcastFrameSent
  | _ => cases hevent

/-! ### The host accesses -/

/-- A command changes at most the record it is for; a reset is none of them. -/
structure CommandReports (c : HostCommand) (s t : State) : Prop extends SamePort s t where
  completion : c ≠ .nextCompletion → t.completion = s.completion
  attentionRecord : c ≠ .nextAttention → t.attentionRecord = s.attentionRecord
  faultRegisters : c ≠ .nextFault → t.faultRegisters = s.faultRegisters

theorem SameReports.command (h : SameReports s t) (c : HostCommand) : CommandReports c s t :=
  ⟨h.toSamePort, fun _ => h.completion, fun _ => h.attentionRecord, fun _ => h.faultRegisters⟩

theorem commandReports_nextCompletion (s : State) : CommandReports .nextCompletion s (nextCompletion s) := by
  have hform : ∀ t, t.pending = s.pending ∧ t.portWaiting = s.portWaiting ∧ t.attentionRecord = s.attentionRecord ∧
      t.faultRegisters = s.faultRegisters → CommandReports .nextCompletion s t :=
    fun t ⟨hp, hw, ha, hf⟩ => ⟨⟨hp, hw⟩, fun h => absurd rfl h, fun _ => ha, fun _ => hf⟩
  unfold nextCompletion
  split
  · exact hform _ ⟨rfl, rfl, rfl, rfl⟩
  · dsimp only
    split
    · split <;> exact hform _ ⟨rfl, rfl, rfl, rfl⟩
    · exact hform _ ⟨rfl, rfl, rfl, rfl⟩

theorem commandReports_nextAttention (s : State) : CommandReports .nextAttention s (nextAttention s) := by
  unfold nextAttention
  split <;> exact ⟨⟨rfl, rfl⟩, fun _ => rfl, fun h => absurd rfl h, fun _ => rfl⟩

theorem commandReports_nextFault (s : State) : CommandReports .nextFault s (nextFault s) := by
  unfold nextFault
  split <;> exact ⟨⟨rfl, rfl⟩, fun _ => rfl, fun _ => rfl, fun h => absurd rfl h⟩

theorem commandReports_commandEffect {c : HostCommand} (h : c ≠ .controllerReset) (s : State) :
    CommandReports c s (commandEffect c s) := by
  cases c with
  | controllerReset => exact absurd rfl h
  | nextCompletion => exact commandReports_nextCompletion s
  | nextAttention => exact commandReports_nextAttention s
  | nextFault => exact commandReports_nextFault s
  | linkStart => exact (sameReports_linkStart s).command _
  | linkStop => exact (sameReports_linkStop s).command _
  | stationRejoin => exact (sameReports_stationRejoin s).command _
  | submit | stageClear | cancel | release | stationHold | stationResume | stationFlush =>
    exact (sameReports_effects (effects_commandEffect rfl)).command _

theorem samePort_commandEffect (c : HostCommand) (s : State) : SamePort s (commandEffect c s) := by
  by_cases h : c = .controllerReset
  · subst h
    exact ⟨rfl, rfl⟩
  · exact (commandReports_commandEffect h s).toSamePort

theorem sameReports_read (location : BitVec 6) (s : State) : SameReports s (takeAccess (.read location) s) :=
  have heffects : Effects True True False s (readAccess location s) := effects_readAccess (fun h => h.elim) location
  heffects.frame.sameReports

theorem sameReports_write {location : BitVec 6} (h : location ≠ 0x03#6) (v : Word) (s : State) :
    SameReports s (takeAccess (.write location v) s) := sameReports_effects (effects_writeLocation h v)

theorem samePort_takeAccess (a : HostAccess) (s : State) : SamePort s (takeAccess a s) := by
  cases a with
  | read location => exact (sameReports_read location s).toSamePort
  | write location v =>
    by_cases h : location = 0x03#6
    · subst h
      show SamePort s (commandWrite (v.extractLsb' 0 8) s)
      unfold commandWrite
      split
      next c _ =>
        have := samePort_commandEffect c { s with command := commandCode c }
        exact ⟨this.pending, this.portWaiting⟩
      next => exact ⟨rfl, rfl⟩
    · exact (sameReports_write h v s).toSamePort

theorem pending_onPort {a : HostAccess} {effect : State → State} (h : (effect s).pending = s.pending) :
    (onPort a effect s).pending = s.pending := by
  unfold onPort
  split
  · rfl
  · split
    · rfl
    · exact h

/-- What reaches the port waits there or takes effect: it touches the three records only as its effect does. -/
theorem records_onPort {P : State → Prop} {a : HostAccess} {effect : State → State} (hself : P s)
    (hwaits : ∀ w, P { s with portWaiting := w }) (heffect : P (effect s)) : P (onPort a effect s) := by
  unfold onPort
  split
  · exact hself
  · split
    · exact hwaits _
    · exact heffect

/-! ### The obligations -/

/-- The three latched records stay. -/
def SameRecords (s t : State) : Prop :=
  t.completion = s.completion ∧ t.attentionRecord = s.attentionRecord ∧ t.faultRegisters = s.faultRegisters

theorem SameReports.records (h : SameReports s t) : SameRecords s t := ⟨h.completion, h.attentionRecord, h.faultRegisters⟩

/-- A host row that is not a command of the table. -/
theorem sameRecords_access {c : Instr} {a : HostAccess} (h : exec c s = .next t) (haccess : accessOf c = some a)
    (heffect : SameReports s (takeAccess a s)) : SameRecords s t := by
  rw [exec_of_access haccess] at h
  cases h
  exact records_onPort (P := SameRecords s) ⟨rfl, rfl, rfl⟩ (fun _ => ⟨rfl, rfl, rfl⟩) heffect.records

/-- A command row changes at most the record it is for. -/
theorem records_commandRow {row : Instr} {c : HostCommand} (hreset : c ≠ .controllerReset)
    (hcompletion : c = .nextCompletion → row = .nextCompletion) (hattention : c = .nextAttention → row = .nextAttention)
    (hfault : c = .nextFault → row = .nextFault) :
    (row ≠ .nextCompletion → (hostCommand c s).completion = s.completion) ∧
      (row ≠ .nextAttention → (hostCommand c s).attentionRecord = s.attentionRecord) ∧
      (row ≠ .nextFault → (hostCommand c s).faultRegisters = s.faultRegisters) := by
  have hkept := commandReports_commandEffect hreset { s with command := commandCode c }
  exact records_onPort (P := fun t => (row ≠ .nextCompletion → t.completion = s.completion) ∧
      (row ≠ .nextAttention → t.attentionRecord = s.attentionRecord) ∧
      (row ≠ .nextFault → t.faultRegisters = s.faultRegisters))
    ⟨fun _ => rfl, fun _ => rfl, fun _ => rfl⟩ (fun _ => ⟨fun _ => rfl, fun _ => rfl, fun _ => rfl⟩)
    ⟨fun h => hkept.completion (h ∘ hcompletion), fun h => hkept.attentionRecord (h ∘ hattention),
      fun h => hkept.faultRegisters (h ∘ hfault)⟩

/-- Settles O3: every arm of the dispatch is a next state, and no chain of effects, no link command and no event on the
pair touches the queue of commands. -/
theorem everyCommandAnswersANextState : Obligations.EveryCommandAnswersANextState := by
  intro c s
  cases haccess : accessOf c with
  | some a => exact ⟨_, exec_of_access haccess s, pending_onPort (samePort_takeAccess a s).pending⟩
  | none =>
    by_cases hpin : c = .pinReset
    · subst hpin
      exact ⟨_, rfl, rfl⟩
    · have hnext : ∃ t, exec c s = .next t := by cases c <;> exact ⟨_, rfl⟩
      obtain ⟨t, ht⟩ := hnext
      exact ⟨t, ht, (sameReports_exec ht haccess hpin).pending⟩

/-- Settles O20: the tick, every event and every host row but the three NEXT commands leave the records alone. -/
theorem latchedRecordsChangeOnlyByTheirCommands : Obligations.LatchedRecordsChangeOnlyByTheirCommands := by
  refine ⟨fun s t hpending hwaiting hstep => ?tick, fun c s t hexec hwf hpin hreset => ?row⟩
  case tick =>
    rw [step, hpending, whenIdle_of_not (.inr (.inr hwaiting))] at hstep
    cases hstep
    exact ⟨rfl, rfl, rfl⟩
  case row =>
    have hplain : SameRecords s t → (c ≠ .nextCompletion → t.completion = s.completion) ∧
        (c ≠ .nextAttention → t.attentionRecord = s.attentionRecord) ∧
        (c ≠ .nextFault → t.faultRegisters = s.faultRegisters) :=
      fun ⟨hc, ha, hf⟩ => ⟨fun _ => hc, fun _ => ha, fun _ => hf⟩
    cases haccess : accessOf c with
    | none => exact hplain (sameReports_exec hexec haccess hpin).records
    | some a =>
      cases c with
      | submit | stageClear | cancel | release | linkStart | linkStop | stationHold | stationResume | stationFlush
      | stationRejoin | nextCompletion | nextAttention | nextFault =>
        cases hexec
        exact records_commandRow nofun (by simp) (by simp) (by simp)
      | controllerReset => exact absurd rfl hreset
      | badCommand code =>
        have hnone : commandOf code = none := Option.isNone_iff_eq_none.mp hwf
        refine hplain (sameRecords_access hexec haccess ?_)
        cases haccess
        show SameReports s (commandWrite ((0#8 ++ code : Word).extractLsb' 0 8) s)
        rw [command_byte, commandWrite, hnone]
        exact ⟨⟨rfl, rfl⟩, rfl, rfl, rfl⟩
      | registerWrite location v =>
        refine hplain (sameRecords_access hexec haccess ?_)
        cases haccess
        exact sameReports_write (ne_command_of_wf hwf) v s
      | dataPortRead | apertureRead _ =>
        refine hplain (sameRecords_access hexec haccess ?_)
        cases haccess
        exact sameReports_read _ s
      | apertureWrite offset v =>
        refine hplain (sameRecords_access hexec haccess ?_)
        cases haccess
        rw [show takeAccess (.write (0b11#2 ++ offset) v) s = apertureWrite offset v s from writeLocation_aperture offset v s]
        exact sameReports_effects (effects_apertureWrite offset v)
      | stageDataWrite _ | interruptCauseWrite _ | interruptEnableWrite _ | windowStatusWrite _ | windowStationWrite _
      | pageBaseWrite _ | prefetchWrite _ | timebaseWrite _ =>
        refine hplain (sameRecords_access hexec haccess ?_)
        cases haccess
        exact sameReports_write (by decide) _ s
      | _ => cases haccess

end Sys2Proof.Proofs
end

section
/-! PROOFS. What the locations of the host window read: a location is the sum of its fields at their positions (R184). -/

namespace Sys2Proof.Proofs

open Sys2Proof.Machine Sys2Proof.Claims

variable {s : State}

/-! ### Fields in a word -/

/-- A word that holds the number `n` in its low `k` bits and nothing above. -/
def Holds (x : Word) (n k : Nat) : Prop := x.toNat = n ∧ n < 2 ^ k

theorem Holds.value {x : Word} {n k : Nat} (h : Holds x n k) : x.toNat = n := h.1

theorem or_of_low {x y k : Nat} (hx : x < 2 ^ k) : x ||| 2 ^ k * y = x + 2 ^ k * y := by
  rw [Nat.or_comm, ← Nat.two_pow_add_eq_or_of_lt hx, Nat.add_comm]

theorem toNat_place {w p : Nat} (v : BitVec w) (hw : p + w ≤ 16) : (place p v).toNat = 2 ^ p * v.toNat := by
  have hv := v.isLt
  have hpow : 2 ^ w * 2 ^ p ≤ 2 ^ 16 := by rw [← pow_add]; exact Nat.pow_le_pow_right (by decide) (by omega)
  have hpw : 2 ^ w ≤ 2 ^ 16 := Nat.pow_le_pow_right (by decide) (by omega)
  have hlt : v.toNat * 2 ^ p < 2 ^ 16 := lt_of_lt_of_le (Nat.mul_lt_mul_of_pos_right hv (Nat.two_pow_pos p)) hpow
  unfold place
  rw [BitVec.toNat_shiftLeft, BitVec.toNat_setWidth, Nat.mod_eq_of_lt (lt_of_lt_of_le hv hpw), Nat.shiftLeft_eq,
    Nat.mod_eq_of_lt hlt, Nat.mul_comm]

theorem toNat_bit {p : Nat} (b : Bool) (hp : p < 16) : (bit p b).toNat = 2 ^ p * b.toNat := by
  cases b with
  | false => simp [bit]
  | true =>
    have hlt : 2 ^ p < 2 ^ 16 := Nat.pow_lt_pow_right (by decide) hp
    simpa [bit, Nat.shiftLeft_eq] using hlt

theorem bitAt_eq (p : Nat) (b : Bool) : bitAt p b = 2 ^ p * b.toNat := by cases b <;> simp [bitAt]

/-- The lowest field of a location. -/
theorem holds_place {w : Nat} (v : BitVec w) (hw : w ≤ 16) : Holds (place 0 v) v.toNat w :=
  ⟨by rw [toNat_place v (by omega), pow_zero, one_mul], v.isLt⟩

theorem holds_bit (b : Bool) : Holds (bit 0 b) (bitAt 0 b) 1 :=
  ⟨by rw [toNat_bit b (by decide), bitAt_eq], by cases b <;> decide⟩

theorem Holds.low_lt {x : Word} {n k p : Nat} (h : Holds x n k) (hk : k ≤ p) : n < 2 ^ p :=
  lt_of_lt_of_le h.2 (Nat.pow_le_pow_right (by decide) hk)

/-- The next field of a location, above what it holds so far. -/
theorem Holds.or_place {x : Word} {n k p w : Nat} (h : Holds x n k) (v : BitVec w) (hk : k ≤ p) (hw : p + w ≤ 16) :
    Holds (x ||| Machine.place p v) (n + 2 ^ p * v.toNat) (p + w) := by
  have hn := h.low_lt hk
  have hv := v.isLt
  refine ⟨by rw [BitVec.toNat_or, toNat_place v hw, h.1, or_of_low hn], ?_⟩
  calc n + 2 ^ p * v.toNat < 2 ^ p * (v.toNat + 1) := by rw [Nat.mul_add, Nat.mul_one]; omega
    _ ≤ 2 ^ p * 2 ^ w := Nat.mul_le_mul_left _ hv
    _ = 2 ^ (p + w) := (pow_add ..).symm

/-- The next bit of a location. -/
theorem Holds.or_bit {x : Word} {n k p : Nat} (h : Holds x n k) (b : Bool) (hk : k ≤ p) (hp : p < 16) :
    Holds (x ||| Machine.bit p b) (n + bitAt p b) (p + 1) := by
  have hn := h.low_lt hk
  rw [bitAt_eq]
  refine ⟨by rw [BitVec.toNat_or, toNat_bit b hp, h.1, or_of_low hn], ?_⟩
  rw [pow_succ]
  cases b <;> simp <;> omega

theorem field_toNat {w n : Nat} (h : n < 2 ^ w) : (field w n).toNat = n := by
  rw [field, BitVec.toNat_ofNat, Nat.mod_eq_of_lt h]

theorem address_lt (i : StationId) : stationAddress i < 16 := by
  have := i.isLt
  unfold stationAddress
  omega

theorem target_address_lt (target : Target) : target.address < 16 := by
  cases target with
  | station i => exact address_lt i
  | broadcast => decide

/-! ### Codes -/

theorem linkCode_toNat (l : LinkState) : l.code.toNat = linkNumber l := by cases l <;> rfl

theorem resultCode_toNat (c : ResultCode) : c.code.toNat = resultNumber c := by cases c <;> rfl

theorem statusCode_toNat (c : Status) : c.code.toNat = statusNumber c := by cases c <;> rfl

theorem causeCode_eq (c : FaultCause) : c.code = BitVec.ofNat 4 (causeNumber c) := by cases c <;> rfl

theorem exchangeCode_toNat (k : ExchangeKind) : k.code.toNat = exchangeNumber k := by cases k <;> rfl

theorem phaseCode_toNat (p : EnginePhase) : p.code.toNat = engineNumber p := by cases p <;> rfl

theorem stationCode_toNat (c : StationState) : c.code.toNat = stationNumber c := by cases c <;> rfl

theorem writtenCode_toNat (w : Written) : w.code.toNat = writtenNumber w := by cases w <;> rfl

theorem failedPhaseCode_toNat (p : Option Phase) : (failedPhaseCode p).toNat = phaseNumber p := by
  cases p with
  | none => rfl
  | some p => cases p <;> rfl

theorem outcomeCode_toNat (o : WindowOutcome) : o.code.toNat = outcomeNumber o := by cases o <;> rfl

theorem outcomeDetail_toNat (o : WindowOutcome) : o.detail.toNat = outcomeDetail o := by
  cases o with
  | ok | deferred => rfl
  | refused code => exact resultCode_toNat code
  | error status => cases status <;> rfl

/-! ### The locations -/

theorem read_stageStatus (h : s.staging.data.length ≤ 16) :
    (s.readLocation 0x07#6).toNat = s.staging.data.length + bitAt 8 s.staging.overflow := by
  have := ((holds_place (field 5 s.staging.data.length) (by decide)).or_bit s.staging.overflow
    (by decide : 5 ≤ 8) (by decide)).value
  rwa [field_toNat (by omega)] at this

theorem read_twoFields {location : BitVec 6} {v w : Nat} (a : BitVec v) (b : BitVec w) (p : Nat)
    (h : s.readLocation location = place 0 a ||| place p b) (hv : v ≤ p) (hw : p + w ≤ 16) :
    (s.readLocation location).toNat = a.toNat + 2 ^ p * b.toNat := by
  rw [h]
  exact ((holds_place a (by omega)).or_place b hv hw).value

theorem read_field {location : BitVec 6} {v : Nat} (a : BitVec v) (h : s.readLocation location = place 0 a) (hv : v ≤ 16) :
    (s.readLocation location).toNat = a.toNat := by
  rw [h]
  exact (holds_place a hv).value

/-- COMPLETION A and B (R23). -/
theorem read_completion (s : State) :
    (s.readLocation 0x10#6).toNat =
      s.completion.tag.toNat + 16 * s.completion.kind.toNat + 256 * s.completion.station.toNat +
        4096 * s.completion.status.toNat ∧
    (s.readLocation 0x11#6).toNat =
      s.completion.wordsDone.toNat + bitAt 8 s.completion.oldPresent + 512 * s.completion.written.toNat +
        4096 * s.completion.failedPhase.toNat :=
  ⟨((((holds_place s.completion.tag (by decide)).or_place s.completion.kind (p := 4) (by decide) (by decide)).or_place
      s.completion.station (p := 8) (by decide) (by decide)).or_place s.completion.status (p := 12) (by decide)
      (by decide)).value,
    ((((holds_place s.completion.wordsDone (by decide)).or_bit s.completion.oldPresent (p := 8) (by decide)
      (by decide)).or_place s.completion.written (p := 9) (by decide) (by decide)).or_place s.completion.failedPhase
      (p := 12) (by decide) (by decide)).value⟩

theorem holds_causes (c : Causes) : Holds c.read
    (bitAt 0 c.completion + bitAt 1 c.attention + bitAt 2 c.fault + bitAt 8 c.station + bitAt 9 c.link +
      bitAt 10 c.window) 11 :=
  (((((holds_bit c.completion).or_bit c.attention (p := 1) (by decide) (by decide)).or_bit c.fault (p := 2) (by decide)
    (by decide)).or_bit c.station (p := 8) (by decide) (by decide)).or_bit c.link (p := 9) (by decide) (by decide)).or_bit
    c.window (p := 10) (by decide) (by decide)

theorem read_windowStatus (s : State) : (s.readLocation 0x1F#6).toNat =
    outcomeNumber s.windowStatus.last + 256 * outcomeDetail s.windowStatus.last +
      bitAt 13 s.windowStatus.deferredSeen + bitAt 14 s.windowStatus.discardedSeen +
      bitAt 15 s.windowStatus.droppedSeen := by
  rw [← outcomeCode_toNat, ← outcomeDetail_toNat]
  exact (((((holds_place s.windowStatus.last.code (by decide)).or_place s.windowStatus.last.detail (p := 8) (by decide)
    (by decide)).or_bit s.windowStatus.deferredSeen (p := 13) (by decide) (by decide)).or_bit s.windowStatus.discardedSeen
    (p := 14) (by decide) (by decide)).or_bit s.windowStatus.droppedSeen (p := 15) (by decide) (by decide)).value

theorem read_status (h : s.attention.length ≤ 32) :
    (s.readLocation 0x02#6).toNat = linkNumber s.link + bitAt 3 s.holdInput + 256 * s.attention.length := by
  have := (((holds_place s.link.code (by decide)).or_bit s.holdInput (p := 3) (by decide) (by decide)).or_place
    (field 6 s.attention.length) (p := 8) (by decide) (by decide)).value
  rw [field_toNat (by omega), linkCode_toNat] at this
  exact this

theorem read_exchange {x : Exchange} (hx : s.exchange = some x) (h : x.attempt ≤ 16) :
    (s.readLocation 0x1C#6).toNat =
      x.attempt + 32 * engineNumber x.phase + 256 * exchangeNumber x.kind + 4096 * x.destination.address := by
  have hread : s.readLocation 0x1C#6 = s.readExchange := rfl
  have := ((((holds_place (field 5 x.attempt) (by decide)).or_place x.phase.code (p := 5) (by decide)
    (by decide)).or_place x.kind.code (p := 8) (by decide) (by decide)).or_place (field 4 x.destination.address) (p := 12)
    (by decide) (by decide)).value
  rw [field_toNat (by omega), field_toNat (target_address_lt _), phaseCode_toNat, exchangeCode_toNat] at this
  rw [hread, State.readExchange, hx]
  exact this

theorem read_station (h : (s.station s.stationSelect).queue.length ≤ 32) :
    (s.readLocation 0x24#6).toNat =
      stationNumber (s.station s.stationSelect).state + bitAt 2 (s.station s.stationSelect).held +
        bitAt 3 (s.settings.tiers.getLsbD s.stationSelect.val) + bitAt 4 (s.station s.stationSelect).parkCapable +
        bitAt 5 (s.station s.stationSelect).attentionCapable + bitAt 6 (s.station s.stationSelect).backlog +
        bitAt 7 (s.station s.stationSelect).pollDue + bitAt 8 (s.station s.stationSelect).toggle +
        512 * (s.station s.stationSelect).queue.length := by
  have hread : s.readLocation 0x24#6 = s.readStation s.stationSelect := rfl
  generalize hst : s.station s.stationSelect = st at h ⊢
  have := (((((((((holds_place st.state.code (by decide)).or_bit st.held (p := 2) (by decide) (by decide)).or_bit
    (s.settings.isLow s.stationSelect) (p := 3) (by decide) (by decide)).or_bit st.parkCapable (p := 4) (by decide)
    (by decide)).or_bit st.attentionCapable (p := 5) (by decide) (by decide)).or_bit st.backlog (p := 6) (by decide)
    (by decide)).or_bit st.pollDue (p := 7) (by decide) (by decide)).or_bit st.toggle (p := 8) (by decide)
    (by decide)).or_place (field 6 st.queue.length) (p := 9) (by decide) (by decide)).value
  rw [field_toNat (by omega), stationCode_toNat] at this
  rw [hread, State.readStation, hst]
  exact this

theorem read_identity (h : (s.station s.stationSelect).maxBurst ≤ 16) :
    (s.readLocation 0x25#6).toNat =
      (s.station s.stationSelect).maxBurst + 256 * (s.station s.stationSelect).revision.toNat := by
  have hfield : Holds (field 16 (s.station s.stationSelect).maxBurst) (s.station s.stationSelect).maxBurst 5 :=
    ⟨field_toNat (by omega), by omega⟩
  exact (hfield.or_place (s.station s.stationSelect).revision (p := 8) (by decide) (by decide)).value

theorem read_posted (h : s.poolUsed ≤ 128) :
    (s.readLocation 0x1B#6).toNat =
      (List.finRange 16).countP (fun p => (s.postedEntry p).isNone) + 256 * (128 - s.poolUsed) := by
  have hcount : freeCount s.posted ≤ 16 :=
    le_trans List.countP_le_length (by rw [List.length_finRange])
  have := ((holds_place (field 5 (freeCount s.posted)) (by decide)).or_place (field 8 s.poolFree) (p := 8) (by decide)
    (by decide)).value
  have hpool : s.poolFree = 128 - s.poolUsed := rfl
  rw [field_toNat (by omega), field_toNat (by omega), hpool] at this
  exact this

theorem read_address (i : StationId) : (field 16 (stationAddress i)).toNat = stationAddress i :=
  field_toNat (lt_trans (address_lt i) (by decide))

theorem liveReads (s : State) : LiveReads s where
  status := read_status
  parameter := rfl
  submitTag := read_field s.submitTag rfl (by decide)
  stageStatus := read_stageStatus
  postedStatus := read_posted
  exchangeIdle hx := by
    show s.readExchange = 0#16
    rw [State.readExchange, hx]
  exchangeStatus _ := read_exchange
  stationStatus := read_station
  stationIdentity := read_identity
  stationClass := rfl

theorem settingReads (s : State) : SettingReads s where
  stageControl :=
    (((holds_place s.staging.kind (by decide)).or_place s.staging.mode (p := 4) (by decide) (by decide)).or_place
      s.staging.relation (p := 8) (by decide) (by decide)).value
  stageTarget := read_twoFields s.staging.station s.staging.count 8 rfl (by decide) (by decide)
  stageWords := ⟨rfl, rfl, rfl, rfl, rfl⟩
  unread := ⟨rfl, rfl⟩
  windowStation := read_address s.settings.windowStation
  pageBase := by
    show place 4 s.settings.pageBase = _
    apply BitVec.eq_of_toNat_eq
    rw [toNat_place _ (by decide), BitVec.toNat_append, Nat.shiftLeft_eq]
    simp [Nat.mul_comm]
  prefetch := (holds_bit s.settings.prefetch).value
  stationSelect := read_address s.stationSelect
  timebase := read_field s.settings.timebaseDivisor rfl (by decide)
  linkConfig :=
    (((holds_place s.settings.replyWindow (by decide)).or_place s.settings.bitRate (p := 8) (by decide)
      (by decide)).or_place s.settings.retryLimit (p := 12) (by decide) (by decide)).value
  busyConfig := read_twoFields s.settings.busyLimit s.settings.busyBackoff 8 rfl (by decide) (by decide)
  parkConfig := read_twoFields s.settings.parkLimit s.settings.collectInterval 8 rfl (by decide) (by decide)
  pollAndHold := read_twoFields s.settings.pollInterval s.settings.holdLimit 8 rfl (by decide) (by decide)
  discardTime := read_field s.settings.discardTime rfl (by decide)
  masks := ⟨toNat_place s.settings.expected (by decide), toNat_place s.settings.tiers (by decide)⟩

end Sys2Proof.Proofs
end

section
/-! PROOFS. The rows of the host port, the pins, the commands that touch no queue, and the interrupt registers. -/

namespace Sys2Proof.Proofs

open Sys2Proof.Machine Sys2Proof.Claims

variable {s t : State}

/-! ### A ready port -/

/-- A row at a ready port takes effect (R183). -/
theorem exec_onPort_ready {row : Instr} {a : HostAccess} (f : State → State) (h : PortReady s)
    (hrow : exec row s = .next (onPort a f s)) : exec row s = .next (f s) := by
  obtain ⟨hreset, haccess, hwaiting⟩ := h
  rw [hrow, onPort_ready hreset haccess hwaiting]

/-- The row of the Posted Store after the closure of the OPEN entry (R156). -/
theorem closed_closeOpen (s : State) (p : PostedIndex) : Closed (s.postedEntry p) ((closeOpen s).postedEntry p) := by
  rw [postedEntry_closeOpen]
  cases he : s.postedEntry p with
  | none => rfl
  | some e =>
    show closedRow (some e) = some _
    unfold closedRow
    dsimp only
    split <;> rfl

/-! ### The resets and the pins (R51, R97, R192) -/

/-- The reset column of the register map (R184). -/
theorem resetMap_reads : resetMap.map (fun e => State.reset.readLocation e.1) = resetMap.map Prod.snd := by decide

/-- Settles O7: the pin reset is the reset state but for what is outside the block. -/
theorem pinsResetTheBlockOrMoveTheirLevel : Obligations.PinsResetTheBlockOrMoveTheirLevel := by
  intro s
  refine ⟨rfl, rfl, rfl, pinReset s, rfl, ?block, ?map, ?status, rfl, rfl, rfl, rfl, fun u => ?request, fun p => ?posted,
    fun i => ?station, rfl, rfl, rfl, rfl, rfl, rfl, rfl, rfl, rfl, rfl, rfl, rfl, rfl, rfl⟩
  case block =>
    unfold pinReset State.resetData
    cases s.access with
    | none => rfl
    | some a => cases a <;> rfl
  case map =>
    have hsame : resetMap.map (fun e => (pinReset s).readLocation e.1) =
        resetMap.map fun e => State.reset.readLocation e.1 := rfl
    exact List.map_inj_left.mp (hsame.trans resetMap_reads)
  case status =>
    have hread : (pinReset s).readLocation 0x02#6 =
        place 0 LinkState.down.code ||| bit 3 s.holdInput ||| place 8 (field 6 0) := rfl
    rw [hread]
    cases s.holdInput <;> rfl
  case request => exact Vector.getElem_replicate ..
  case posted => exact Vector.getElem_replicate ..
  case station => exact Vector.getElem_replicate ..

/-- Settles O8: CONTROLLER-RESET is written so. -/
theorem controllerResetKeepsConfiguration : Obligations.ControllerResetKeepsConfiguration := by
  intro s hready
  obtain ⟨hreset, haccess, hwaiting⟩ := hready
  refine ⟨_, exec_controllerReset_of_portReady ⟨hreset, haccess, hwaiting⟩, rfl, rfl, ?_, rfl⟩
  show (!s.portWaiting.isEmpty) = false
  rw [hwaiting]
  rfl

/-! ### Registers of the host window -/

/-- Settles O10: the list is at its bound or not; STAGE STATUS is read off its two fields. -/
theorem stageDataWriteAppendsOrOverflows : Obligations.StageDataWriteAppendsOrOverflows := by
  intro s v hready
  refine ⟨stageDataWrite v s, exec_onPort_ready (stageDataWrite v) hready rfl, fun h => ?_, fun h => ?_, fun h => ?_⟩
  · exact if_pos h
  · exact if_neg (Nat.not_lt.mpr h)
  · have hlength : (stageDataWrite v s).staging.data.length ≤ 16 := by
      unfold stageDataWrite
      split
      next hroom =>
        have hroom : s.staging.data.length < 16 := hroom
        simp only [List.length_append, List.length_singleton]
        omega
      next => exact h
    exact read_stageStatus hlength

/-- Settles O27: a write of a code outside the table has the other arm's effect, and the table holds fourteen codes. -/
theorem unknownCodeIsBadCommand : Obligations.UnknownCodeIsBadCommand := by
  refine ⟨fun s => ⟨read_field s.command rfl (by decide), ?_⟩, fun s code hready hwf => ?_, by decide⟩
  · rw [read_field s.result.code rfl (by decide), resultCode_toNat]
  · have hnone : commandOf code = none := Option.isNone_iff_eq_none.mp hwf
    rw [exec_onPort_ready (commandWrite code) hready rfl, commandWrite, hnone]
    rfl

/-- Settles O28: each latched cause is masked by its own bit. -/
theorem interruptCauseWriteClearsLatchedOnes : Obligations.InterruptCauseWriteClearsLatchedOnes := by
  intro s v hready
  exact ⟨_, exec_onPort_ready (interruptCauseWrite v) hready rfl, by simp, by simp, by simp⟩

/-- Settles O29: the locations hold the causes and the enables bit by bit, and INT is their meeting. -/
theorem intFollowsCausesAndEnables : Obligations.IntFollowsCausesAndEnables := by
  refine ⟨fun s => ⟨?causes, (holds_causes s.enables).value⟩, fun s v hready => ?write, fun s => ?int⟩
  case causes =>
    have hcauses := (holds_causes s.causes).value
    have hc : s.causes.completion = decide (s.completionList ≠ []) := by cases h : s.completionList <;> simp [State.causes, h]
    have ha : s.causes.attention = decide (s.attention ≠ []) := by cases h : s.attention <;> simp [State.causes, h]
    have hf : s.causes.fault = decide (s.faults ≠ [] ∨ 0 < s.dropped) := by
      cases h : s.faults with
      | nil => cases hd : s.dropped <;> simp [State.causes, h, hd]
      | cons f rest => simp [State.causes, h]
    rw [hc, ha, hf] at hcauses
    exact hcauses
  case write => exact ⟨_, exec_onPort_ready (interruptEnableWrite v) hready rfl, rfl, rfl, rfl, rfl, rfl, rfl⟩
  case int =>
    simp [State.intAsserted, Causes.meets, State.causes, and_comm, or_assoc, Nat.pos_iff_ne_zero]

/-- Settles O30: each sticky flag is masked by its own bit. -/
theorem windowStatusWriteClearsStickyOnes : Obligations.WindowStatusWriteClearsStickyOnes := by
  refine ⟨read_windowStatus, fun s v hready => ?_⟩
  exact ⟨_, exec_onPort_ready (windowStatusWrite v) hready rfl, rfl, by simp, by simp, by simp⟩

/-- A field put back in its place keeps the bits it was taken from. -/
theorem getLsbD_place_extract (v : Word) (p w i : Nat) (hi : i < 16) :
    (place p (v.extractLsb' p w)).getLsbD i = (decide (p ≤ i ∧ i < p + w) && v.getLsbD i) := by
  by_cases hp : p ≤ i
  · have hadd : p + (i - p) = i := by omega
    have hlt : i - p < w ↔ i < p + w := by omega
    simp [place, hi, hp, hadd, hlt]
  · simp [place, hp]

theorem nibble_toNat (v : Word) : (v.extractLsb' 0 4).toNat = v.toNat % 16 := by
  simp [BitVec.extractLsb'_toNat]

/-- Settles O31: a value that is taken closes the OPEN entry and is stored. -/
theorem windowConfigurationWritesClose : Obligations.WindowConfigurationWritesClose := by
  intro s v hready
  refine ⟨fun h => ?bad, fun i hi => ?station, ⟨pageBaseWrite v s, exec_onPort_ready (pageBaseWrite v) hready rfl, ?_, ?read, rfl⟩,
    ⟨prefetchWrite v s, exec_onPort_ready (prefetchWrite v) hready rfl, ?_, rfl⟩⟩
  case bad =>
    rw [exec_onPort_ready (windowStationWrite v) hready rfl, windowStationWrite, nibble_toNat, stationAt_eq_none.mpr (by omega)]
  case station =>
    refine ⟨windowStationWrite v s, exec_onPort_ready (windowStationWrite v) hready rfl, ?_, ?_⟩ <;>
      rw [windowStationWrite, nibble_toNat, stationAt_eq_some.mpr hi]
    · exact closed_closeOpen _
    · rfl
  case read =>
    show place 4 (v.extractLsb' 4 12) = _
    refine BitVec.eq_of_getLsbD_eq fun i hi => ?_
    rw [getLsbD_place_extract v 4 12 i hi, BitVec.getLsbD_and]
    have hmask : (0xFFF0#16).getLsbD i = decide (4 ≤ i ∧ i < 4 + 12) := by interval_cases i <;> rfl
    rw [hmask, Bool.and_comm]
  · exact closed_closeOpen _
  · exact closed_closeOpen _

/-- Settles O32: the divisor is taken in its range while the link is DOWN. -/
theorem timebaseTakenOnlyWhileDown : Obligations.TimebaseTakenOnlyWhileDown := by
  intro s v hready
  have hbits : v.extractLsb' 0 6 = BitVec.ofNat 6 (v.toNat % 64) := by
    apply BitVec.eq_of_toNat_eq
    simp [BitVec.extractLsb'_toNat]
  have hexec : exec (.timebaseWrite v) s = .next (timebaseWrite v s) := exec_onPort_ready (timebaseWrite v) hready rfl
  have hnat : (BitVec.ofNat 6 (v.toNat % 64)).toNat = v.toNat % 64 := by simp
  rw [hexec, timebaseWrite, hbits, hnat]
  refine ⟨fun hl h8 h32 => by rw [if_pos ⟨hl, h8, h32⟩], fun h => ?_⟩
  have hnot : ¬ (s.link = .down ∧ 8 ≤ v.toNat % 64 ∧ v.toNat % 64 ≤ 32) := by
    rintro ⟨hl, h8, h32⟩
    rcases h with h | h | h
    · exact h hl
    · omega
    · omega
  rw [if_neg hnot]

end Sys2Proof.Proofs
end

section
/-! PROOFS. The commands of the reports and of the link: NEXT-COMPLETION, NEXT-ATTENTION, NEXT-FAULT, the data port,
LINK-START and STATION-REJOIN. -/

namespace Sys2Proof.Proofs

open Sys2Proof.Machine Sys2Proof.Claims

variable {s t : State}

/-! ### The commands at a ready port (R187) -/

theorem exec_nextCompletion_of_portReady (h : PortReady s) : exec .nextCompletion s = .next (nextCompletion (withCode s 0x20#8)) :=
  congrArg Host.Outcome.next (hostCommand_of_portReady .nextCompletion h)

theorem exec_nextAttention_of_portReady (h : PortReady s) : exec .nextAttention s = .next (nextAttention (withCode s 0x22#8)) :=
  congrArg Host.Outcome.next (hostCommand_of_portReady .nextAttention h)

theorem exec_nextFault_of_portReady (h : PortReady s) : exec .nextFault s = .next (nextFault (withCode s 0x23#8)) :=
  congrArg Host.Outcome.next (hostCommand_of_portReady .nextFault h)

theorem exec_linkStart_of_portReady (h : PortReady s) : exec .linkStart s = .next (linkStart (withCode s 0x30#8)) :=
  congrArg Host.Outcome.next (hostCommand_of_portReady .linkStart h)

theorem exec_linkStop_of_portReady (h : PortReady s) : exec .linkStop s = .next (linkStop (withCode s 0x31#8)) :=
  congrArg Host.Outcome.next (hostCommand_of_portReady .linkStop h)

theorem exec_stationFlush_of_portReady (h : PortReady s) : exec .stationFlush s = .next (stationFlush (withCode s 0x42#8)) :=
  congrArg Host.Outcome.next (hostCommand_of_portReady .stationFlush h)

theorem exec_stationRejoin_of_portReady (h : PortReady s) : exec .stationRejoin s = .next (stationRejoin (withCode s 0x43#8)) :=
  congrArg Host.Outcome.next (hostCommand_of_portReady .stationRejoin h)

theorem exec_submit_of_portReady (h : PortReady s) : exec .submit s = .next (submit (withCode s 0x10#8)) :=
  congrArg Host.Outcome.next (hostCommand_of_portReady .submit h)

theorem exec_cancel_of_portReady (h : PortReady s) : exec .cancel s = .next (cancel (withCode s 0x12#8)) :=
  congrArg Host.Outcome.next (hostCommand_of_portReady .cancel h)

/-! ### Completions and the data port (R22 to R24) -/

theorem nextFault_nil (h : s.faults = []) : nextFault s = s.setResult .empty := by simp only [nextFault, h]

theorem nextAttention_nil (h : s.attention = []) : nextAttention s = s.setResult .empty := by simp only [nextAttention, h]

theorem nextCompletion_nil (h : s.completionList = []) : nextCompletion s = s.setResult .empty := by simp only [nextCompletion, h]

theorem nextCompletion_done {u : Tag} {rest : List Tag} {r : Request} {status : Status}
    (hl : s.completionList = u :: rest) (hr : s.request u = some r) (hstate : r.state = .done status) :
    nextCompletion s =
      { s with
        result := .accepted, completionList := rest, dataPosition := 0, completion := r.record u status
        requests := s.requests.set u (some { r with state := .delivered status }) } := by
  simp only [nextCompletion, hl, hr, hstate]
  rfl

/-- Settles O16: the record is read off the entry field by field. -/
theorem nextCompletionDeliversTheOldest : Obligations.NextCompletionDeliversTheOldest := by
  refine ⟨fun s => ⟨(read_completion s).1, (read_completion s).2, rfl⟩, fun s hready => ⟨fun hempty => ?empty, ?oldest⟩⟩
  case empty =>
    rw [exec_nextCompletion_of_portReady hready]
    exact congrArg _ (nextCompletion_nil (s := withCode s 0x20#8) hempty)
  case oldest =>
    intro u rest r status hl hr hstate
    refine ⟨r.record u status, ?_, ?_⟩
    · rw [exec_nextCompletion_of_portReady hready]
      exact congrArg _ (nextCompletion_done (s := withCode s 0x20#8) hl hr hstate)
    · have htag : (field 4 u.val).toNat = u.val := field_toNat u.isLt
      have hstation : (field 4 (stationAddress r.station)).toNat = stationAddress r.station := field_toNat (address_lt _)
      unfold Request.record
      cases hk : r.kind with
      | read | confirmedWrite =>
        exact ⟨htag, hstation, statusCode_toNat status, rfl, by simp [RequestKind.code], by simp [RequestKind.code],
          fun _ => ⟨rfl, rfl, rfl, rfl⟩, nofun⟩
      | modify m =>
        refine ⟨htag, hstation, statusCode_toNat status, rfl, nofun, nofun, by simp, fun m' hm => ?_⟩
        cases hm
        refine ⟨rfl, ?_, ?_, ?_, writtenCode_toNat m.written, failedPhaseCode_toNat m.failedPhase⟩
        · exact Option.isSome_iff_ne_none
        · intro old hold
          show m.oldValue.getD 0 = old
          rw [hold]
          rfl
        · intro hold
          show m.oldValue.getD 0 = 0#16
          rw [hold]
          rfl

theorem tagAt_val {n : Nat} {u : Tag} (h : n = u.val) : tagAt n = some u := by
  subst h
  exact dif_pos u.isLt

/-- Settles O17: the word is the position's of a DELIVERED entry, and 0000h otherwise. -/
theorem dataPortReadReturnsAndAdvances : Obligations.DataPortReadReturnsAndAdvances := by
  intro s hready
  refine ⟨s.dataPortWord, exec_onPort_ready dataPortRead hready rfl, fun u hu => ?_⟩
  unfold State.dataPortWord
  rw [tagAt_val hu]
  dsimp only
  refine ⟨fun r status hr hstate hdone hdata => ?_, fun r hr hdone => ?_, fun hnot => ?_⟩
  · rw [hr]
    dsimp only
    rw [hstate]
    simp [hdone, hdata]
  · rw [hr]
    dsimp only
    cases r.state with
    | delivered status => exact if_neg (by omega)
    | queued | active | waiting _ | parked _ | done _ => rfl
  · cases hr : s.request u with
    | none => rfl
    | some r =>
      dsimp only
      cases hstate : r.state with
      | delivered status => exact absurd hstate (hnot r status hr)
      | queued | active | waiting _ | parked _ | done _ => rfl

/-! ### Attention and faults (R170, R171, R177) -/

theorem pollInFlight_iff {i : StationId} :
    s.pollInFlight i = true ↔ ∃ x, s.exchange = some x ∧ x.kind = .poll ∧ x.owner = .station i := by
  unfold State.pollInFlight
  cases s.exchange with
  | none => simp
  | some x => simp

/-- The record of a station after a removal by NEXT-ATTENTION (R170). -/
theorem station_backlogPollsDue (s : State) (i : StationId) :
    (backlogPollsDue s).station i =
      if (s.station i).backlog = true ∧ (s.station i).attentionCapable = true ∧
          ¬ (∃ x, s.exchange = some x ∧ x.kind = .poll ∧ x.owner = .station i) then
        { s.station i with pollDue := true, pollTimer := none }
      else s.station i := by
  rw [show (backlogPollsDue s).station i = _ from tabulate_get _ i]
  unfold Station.makePollDue
  simp only [← pollInFlight_iff]
  cases (s.station i).backlog <;> cases (s.station i).attentionCapable <;> cases s.pollInFlight i <;> rfl

/-- Settles O18: the oldest item is latched, and the poll bookkeeping of every station is moved as R170 says. -/
theorem nextAttentionTakesTheOldestItem : Obligations.NextAttentionTakesTheOldestItem := by
  refine ⟨fun s => ⟨read_twoFields s.attentionRecord.station s.attentionRecord.code 8 rfl (by decide) (by decide),
    read_field s.attentionRecord.occurrences rfl (by decide), rfl⟩, fun s hready => ⟨fun hempty => ?empty, ?oldest⟩⟩
  case empty =>
    rw [exec_nextAttention_of_portReady hready]
    exact congrArg _ (nextAttention_nil (s := withCode s 0x22#8) hempty)
  case oldest =>
    intro item rest hl
    have hform : nextAttention (withCode s 0x22#8) =
        (backlogPollsDue { withCode s 0x22#8 with
          attention := rest
          attentionRecord :=
            { station := field 4 (stationAddress item.station), code := item.code
              occurrences := field 8 item.occurrences, info := item.info } }).setResult .accepted := by
      have hl : (withCode s 0x22#8).attention = item :: rest := hl
      simp only [nextAttention, hl]
    refine ⟨_, exec_nextAttention_of_portReady hready, fun i => ?_, ?_⟩
    · rw [hform]
      exact station_backlogPollsDue _ i
    · rw [hform]
      rfl

/-- Settles O19: the dropped count goes with the last record. -/
theorem nextFaultReportsDropsWithTheLast : Obligations.NextFaultReportsDropsWithTheLast := by
  refine ⟨fun s => ⟨read_twoFields s.faultRegisters.cause s.faultRegisters.station 8 rfl (by decide) (by decide), rfl,
    read_twoFields s.faultRegisters.wordsDone s.faultRegisters.dropped 8 rfl (by decide) (by decide), fun hkept => ?status⟩,
    fun s hready => ⟨fun hempty => ?empty, fun f rest hl => ?oldest⟩⟩
  case status =>
    obtain ⟨hlength, hdropped, -⟩ := hkept
    have hlength : s.faults.length ≤ 8 := hlength
    have hdropped : s.dropped ≤ 255 := hdropped
    have := read_twoFields (s := s) (location := 0x1A#6) (field 4 s.faults.length) (field 8 s.dropped) 8 rfl (by decide)
      (by decide)
    rwa [field_toNat (by omega), field_toNat (by omega)] at this
  case empty =>
    rw [exec_nextFault_of_portReady hready]
    exact congrArg _ (nextFault_nil (s := withCode s 0x23#8) hempty)
  case oldest =>
    have hl : (withCode s 0x23#8).faults = f :: rest := hl
    rw [exec_nextFault_of_portReady hready]
    simp only [nextFault, hl, causeCode_eq, List.isEmpty_iff]
    rfl

/-! ### LINK-START and STATION-REJOIN (R44, R48) -/

theorem mem_expectedStations (s : State) (i : StationId) :
    i ∈ s.settings.expectedStations ↔ (s.readLocation 0x2D#6).getLsbD (stationAddress i) = true := by
  have hbit : (s.readLocation 0x2D#6).getLsbD (stationAddress i) = s.settings.expected.getLsbD i.val := by
    show (place 1 s.settings.expected).getLsbD (i.val + 1) = _
    have := i.isLt
    simp [place, show i.val + 1 < 16 by omega]
  rw [hbit, Settings.expectedStations, List.mem_filter]
  simp [Settings.expects]

theorem expectedStations_sorted (g : Settings) : g.expectedStations.Pairwise (· < ·) :=
  List.Pairwise.filter _ (List.pairwise_lt_finRange 14)

/-- LINK-START in DOWN (R44). -/
theorem linkStart_down (h : s.link = .down) : linkStart s =
    if s.settings.expectedStations = [] then
      { s with result := .accepted, link := .up, pass := [], latched := { s.latched with link := true } }
    else { s with result := .accepted, link := .enumerating, pass := s.settings.expectedStations } := by
  unfold linkStart
  rw [if_pos h]
  cases s.settings.expectedStations with
  | nil => rfl
  | cons i rest => rfl

/-- Settles O21: the pass is the mask's stations in the order of their addresses. -/
theorem linkStartReadsTheMask : Obligations.LinkStartReadsTheMask := by
  intro s hready
  refine ⟨fun h => ?busy, fun h => ⟨_, exec_linkStart_of_portReady hready, ?starts⟩⟩
  case busy =>
    rw [exec_linkStart_of_portReady hready]
    exact congrArg _ (if_neg h)
  case starts =>
    have hmem := mem_expectedStations s
    have hsorted := expectedStations_sorted s.settings
    rw [linkStart_down (s := withCode s 0x30#8) h]
    split
    next hnil =>
      have hnil : s.settings.expectedStations = [] := hnil
      rw [hnil] at hmem
      exact ⟨rfl, List.Pairwise.nil, hmem, fun _ => rfl, fun h => absurd rfl h⟩
    next hcons => exact ⟨rfl, hsorted, hmem, fun h => absurd h hcons, fun _ => rfl⟩

/-- STATION-REJOIN on the station PARAMETER names (R48). -/
theorem stationRejoin_of_address {i : StationId} (h : stationAddress i = s.parameter.toNat) :
    stationRejoin s =
      if s.link = .up ∧ ((s.station i).state = .lost ∨ (s.station i).state = .absent) then
        (s.updateStation i fun st => { st with state := .probing }).setResult .accepted
      else s.setResult .wrongState := by
  unfold stationRejoin
  rw [withStation_of_address h]
  by_cases hup : s.link = .up
  · cases hstate : (s.station i).state with
    | online | probing => simp [hup]
    | lost | absent => simp [hup]
  · simp [hup]

/-- Settles O26: the checks of R48 in their order. -/
theorem stationRejoinChecksInOrder : Obligations.StationRejoinChecksInOrder := by
  intro s hready
  rw [exec_stationFlush_of_portReady hready, exec_stationRejoin_of_portReady hready]
  refine ⟨fun hbad => ⟨congrArg _ (withStation_of_bad (s := withCode s 0x42#8) hbad),
    congrArg _ (withStation_of_bad (s := withCode s 0x43#8) hbad)⟩, fun i hi => ?_⟩
  rw [stationRejoin_of_address (s := withCode s 0x43#8) hi]
  refine ⟨fun h => congrArg _ (if_neg ?_), fun hup h => congrArg _ (if_pos ⟨hup, h⟩)⟩
  rintro ⟨hup, hstate⟩
  have hstate : (s.station i).state = .lost ∨ (s.station i).state = .absent := hstate
  rcases h with h | h | h
  · exact h hup
  · rw [h] at hstate
    simp at hstate
  · rw [h] at hstate
    simp at hstate

end Sys2Proof.Proofs
end

section
/-! PROOFS. SUBMIT: the closure of the OPEN entry, the refusal, and the acceptance of each kind (R9 to R13, R101). -/

namespace Sys2Proof.Proofs

open Sys2Proof.Machine Sys2Proof.Claims

variable {s t : State}

/-! ### The checks see through the closure -/

theorem postedEntry_closeOpen_eq_none {p : PostedIndex} : (closeOpen s).postedEntry p = none ↔ s.postedEntry p = none := by
  rw [postedEntry_closeOpen]
  cases s.postedEntry p with
  | none => simp [closedRow]
  | some e =>
    unfold closedRow
    dsimp only
    split <;> simp

/-- The state SUBMIT checks: COMMAND holds its code, the OPEN entry is closed. -/
def submitting (s : State) : State := closeOpen (withCode s 0x10#8)

theorem refuses_submitting (code : ResultCode) : Refuses (submitting s) code ↔ Refuses s code := by
  have hposted : (∀ p, (submitting s).postedEntry p ≠ none) ↔ ∀ p, s.postedEntry p ≠ none :=
    forall_congr' fun p => not_congr (postedEntry_closeOpen_eq_none (s := withCode s 0x10#8))
  have hpool : (submitting s).poolUsed = s.poolUsed := poolUsed_closeOpen _
  cases code with
  | postedFull =>
    show _ ∧ ((∀ p, (submitting s).postedEntry p ≠ none) ∨ 128 < (submitting s).poolUsed + _) ↔ _
    rw [hposted, hpool]
    exact Iff.rfl
  | _ => exact Iff.rfl

theorem accepts_submitting : Accepts (submitting s) ↔ Accepts s :=
  forall_congr' fun code => forall_congr' fun _ => not_congr (refuses_submitting code)

theorem submit_refused {code : ResultCode} (h : submitRefusal (submitting s) = some code) :
    submit (withCode s 0x10#8) = (submitting s).setResult code := by
  have h : submitRefusal (closeOpen (withCode s 0x10#8)) = some code := h
  simp only [submit, h]
  rfl

theorem submit_accepted (h : Accepts s) : submit (withCode s 0x10#8) = acceptStaged (submitting s) := by
  have h : submitRefusal (closeOpen (withCode s 0x10#8)) = none :=
    submitRefusal_eq_none.mpr (accepts_submitting.mpr h)
  simp only [submit, h]
  rfl

/-- Settles O11: the chain of checks stops at the first condition that holds. -/
theorem firstFailedCheckRefusesSubmit : Obligations.FirstFailedCheckRefusesSubmit := by
  intro s before after code hready horder hcode hbefore
  have hrefused : submitRefusal (submitting s) = some code :=
    submitRefusal_eq_some horder ((refuses_submitting code).mpr hcode) fun c hc => fun h =>
      hbefore c hc ((refuses_submitting c).mp h)
  refine ⟨_, exec_submit_of_portReady hready, ?_⟩
  rw [submit_refused hrefused]
  exact ⟨closed_closeOpen (withCode s 0x10#8), rfl⟩

/-! ### The marking of window entries (R114, R152) -/

theorem marked_staleRow {hits : StationId → Prop} {target : Target} (h : ∀ i, hits i ↔ target.covers i = true)
    (row : Option Request) : Marked hits row (staleRow target row) := by
  cases row with
  | none => rfl
  | some r =>
    cases ho : r.origin with
    | port => simp only [Marked, staleRow, ho]
    | window w =>
      simp only [Marked, staleRow, ho]
      refine ⟨fun hnot => if_neg (fun hc => hnot ((h _).mpr hc)), fun hhit => ?_⟩
      rw [if_pos ((h _).mp hhit)]
      refine ⟨fun status hdone => if_neg ?_, fun hun => if_pos (unfinished_iff.mpr hun)⟩
      rcases hdone with hdone | hdone <;> simp [Request.unfinished, hdone]

theorem covers_station (i j : StationId) : j = i ↔ (Target.station i).covers j = true := by simp [Target.covers]

theorem staleRow_port {target : Target} {r : Request} (h : r.origin = .port) : staleRow target (some r) = some r := by
  simp [staleRow, h]

/-! ### The acceptance -/

/-- The station an accepted request of a kind for one station names. -/
theorem accepts_station (h : Accepts s) (hk : s.staging.kind ≠ 5#4) :
    ∃ i, stationAddress i = s.staging.station.toNat := by
  have hstation := accepts_not h .badStation (by decide)
  simp only [Refuses, not_or, not_and, not_not] at hstation
  have := hstation.1 hk
  exact ⟨⟨s.staging.station.toNat - 1, by omega⟩, by simp only [stationAddress]; omega⟩

theorem accepts_free (h : Accepts s) (hk : s.staging.kind.toNat ≤ 3) : ∃ u, firstFree s.requests = some u := by
  have hfull := accepts_not h .tableFull (by decide)
  simp only [Refuses, not_and] at hfull
  exact Option.ne_none_iff_exists'.mp fun hnone => hfull hk (firstFree_requests_none.mp hnone)

theorem accepts_freePosted (h : Accepts s) (hk : 4 ≤ s.staging.kind.toNat) : ∃ p, firstFree s.posted = some p := by
  have hfull := accepts_not h .postedFull (by decide)
  simp only [Refuses, not_and, not_or] at hfull
  exact Option.ne_none_iff_exists'.mp fun hnone => (hfull hk).1 (firstFree_posted_none.mp hnone)

theorem accepts_kind (h : Accepts s) : 1 ≤ s.staging.kind.toNat ∧ s.staging.kind.toNat ≤ 5 := by
  have := accepts_not h .badKind (by decide)
  simpa [Refuses] using this

/-- The fields a staged request of a deferred kind gives its entry. -/
theorem stagedAs_request (g : Staging) (kind : RequestKind) (i : StationId) (data : List Word) (n : Nat)
    (h1 : g.kind = 1#4 → kind = .read ∧ data = []) (h2 : g.kind = 2#4 → kind = .confirmedWrite ∧ data = g.data)
    (h3 : g.kind = 3#4 → data = [] ∧
      ∃ relation, relationCode relation = g.relation.toNat ∧ kind = .modify (g.modifyPart relation)) :
    StagedAs g { g.request kind i data with order := n } := by
  refine ⟨rfl, rfl, stagedMode_increment, rfl, rfl, rfl, rfl, rfl, rfl, h1, h2, fun hk => ?_⟩
  obtain ⟨hdata, relation, hrelation, hkind⟩ := h3 hk
  exact ⟨hdata, g.modifyPart relation, hkind, hrelation, rfl, rfl, rfl, rfl, rfl, rfl, rfl, rfl⟩

/-- What an accepted SUBMIT of a deferred kind takes (R11). -/
theorem acceptStaged_deferred (h : Accepts s) (hk : s.staging.kind.toNat ≤ 3) {u : Tag}
    (hu : firstFree s.requests = some u) {i : StationId} (hi : stationAddress i = s.staging.station.toNat) :
    ∃ r, StagedAs s.staging { r with order := s.nextOrder } ∧ r.station = i ∧ r.origin = .port ∧
      acceptStaged s =
        if s.staging.kind = 1#4 then accepted u.val (acceptRequest u r s)
        else markStale (.station i) (accepted u.val (acceptRequest u r s)) := by
  have hdeferred : ∀ r, acceptDeferred r s = accepted u.val (acceptRequest u r s) := fun r => by
    simp only [acceptDeferred, hu]
  have hstation : stationAt s.staging.station.toNat = some i := stationAt_eq_some.mpr hi
  have hkinds : s.staging.kind = 1#4 ∨ s.staging.kind = 2#4 ∨ s.staging.kind = 3#4 := by
    have := accepts_kind h
    have hcases : s.staging.kind.toNat = 1 ∨ s.staging.kind.toNat = 2 ∨ s.staging.kind.toNat = 3 := by omega
    exact hcases.imp (BitVec.eq_of_toNat_eq ·) (Or.imp (BitVec.eq_of_toNat_eq ·) (BitVec.eq_of_toNat_eq ·))
  rcases hkinds with hkind | hkind | hkind
  · refine ⟨s.staging.request .read i [], stagedAs_request _ _ _ _ _ ?_ ?_ ?_, rfl, rfl, ?_⟩
    · exact fun _ => ⟨rfl, rfl⟩
    · rw [hkind]; nofun
    · rw [hkind]; nofun
    · rw [if_pos hkind, ← hdeferred]
      simp only [acceptStaged, stagedKind_eq_some.mpr (show s.staging.kind = kindCode .read from hkind), hstation]
  · refine ⟨s.staging.request .confirmedWrite i s.staging.data, stagedAs_request _ _ _ _ _ ?_ ?_ ?_, rfl, rfl, ?_⟩
    · rw [hkind]; nofun
    · exact fun _ => ⟨rfl, rfl⟩
    · rw [hkind]; nofun
    · rw [if_neg (by rw [hkind]; decide), ← hdeferred]
      simp only [acceptStaged, stagedKind_eq_some.mpr (show s.staging.kind = kindCode .confirmedWrite from hkind), hstation]
  · have hrelation := accepts_not h .badRelation (by decide)
    simp only [Refuses, not_and, not_forall, not_not] at hrelation
    obtain ⟨relation, hrelation⟩ := hrelation hkind
    refine ⟨s.staging.request (.modify (s.staging.modifyPart relation)) i [], stagedAs_request _ _ _ _ _ ?_ ?_ ?_, rfl,
      rfl, ?_⟩
    · rw [hkind]; nofun
    · rw [hkind]; nofun
    · exact fun _ => ⟨rfl, relation, hrelation, rfl⟩
    · rw [if_neg (by rw [hkind]; decide), ← hdeferred]
      simp only [acceptStaged, stagedKind_eq_some.mpr (show s.staging.kind = kindCode .modify from hkind), hstation,
        stagedRelation_eq_some.mpr hrelation]

/-- Settles O12: the lowest FREE tag is taken; a write marks the station's window entries, a READ none. -/
theorem submitAcceptsADeferredRequest : Obligations.SubmitAcceptsADeferredRequest := by
  intro s hready hacc hk
  have hacc' : Accepts (submitting s) := accepts_submitting.mpr hacc
  obtain ⟨u, hu⟩ := accepts_free hacc' hk
  obtain ⟨hfree, hlower⟩ := firstFree_eq_some hu
  obtain ⟨i, hi⟩ := accepts_station hacc fun h5 => by rw [h5] at hk; exact absurd hk (by decide)
  obtain ⟨r, hstaged, hstation, hport, hform⟩ := acceptStaged_deferred hacc' hk hu hi
  have hrow : ∀ v, (accepted u.val (acceptRequest u r (submitting s))).request v =
      if u = v then some { r with order := s.nextOrder } else s.request v :=
    fun v => request_acceptRequest u v r (submitting s)
  have hqueue : ∀ j, (accepted u.val (acceptRequest u r (submitting s))).station j =
      if r.station = j then { s.station r.station with queue := (s.station r.station).queue ++ [.request u] }
      else s.station j := fun j => by
    have : (accepted u.val (acceptRequest u r (submitting s))).station j =
      ((submitting s).enqueue r.station (.request u)).station j := rfl
    rw [this, State.enqueue, station_updateStation]
    rfl
  refine ⟨_, u, i, { r with order := s.nextOrder }, exec_submit_of_portReady hready, hi, hfree, hlower, ?_⟩
  rw [submit_accepted hacc, hform]
  have hjoined : (accepted u.val (acceptRequest u r (submitting s))).station i =
      { s.station i with queue := (s.station i).queue ++ [.request u] } := by rw [hqueue, if_pos hstation, hstation]
  have hothers : ∀ j, j ≠ i → (accepted u.val (acceptRequest u r (submitting s))).station j = s.station j :=
    fun j hj => by rw [hqueue, if_neg (by rw [hstation]; exact Ne.symm hj)]
  split
  next hread =>
    refine ⟨by rw [hrow, if_pos rfl], hstaged, hstation, rfl, fun _ v hv => by rw [hrow, if_neg (Ne.symm hv)],
      fun h => absurd hread h, hjoined, hothers, closed_closeOpen (withCode s 0x10#8), rfl⟩
  next hwrite =>
    refine ⟨?_, hstaged, hstation, rfl, fun h => absurd h hwrite, fun _ v hv => ?_, hjoined, hothers,
      closed_closeOpen (withCode s 0x10#8), rfl⟩
    · rw [request_markStale, hrow, if_pos rfl]
      exact staleRow_port hport
    · rw [request_markStale, hrow, if_neg (Ne.symm hv)]
      exact marked_staleRow (fun j => covers_station i j) _

/-! ### Posted kinds (R12, R101) -/

/-- What an accepted SUBMIT of a posted kind takes. -/
theorem acceptStaged_posted (h : Accepts s) (hk : 4 ≤ s.staging.kind.toNat) {p : PostedIndex}
    (hp : firstFree s.posted = some p) :
    ∃ target, target.address = s.staging.station.toNat ∧
      acceptStaged s =
        markStale target (accepted p.val (acceptPosted p (s.staging.posted target) s)) := by
  have hwrite : ∀ target, acceptWrite target s =
      markStale target (accepted p.val (acceptPosted p (s.staging.posted target) s)) := fun target => by
    simp only [acceptWrite, hp]
  have hkinds : s.staging.kind = 4#4 ∨ s.staging.kind = 5#4 := by
    have := accepts_kind h
    have hcases : s.staging.kind.toNat = 4 ∨ s.staging.kind.toNat = 5 := by omega
    exact hcases.imp (BitVec.eq_of_toNat_eq ·) (BitVec.eq_of_toNat_eq ·)
  rcases hkinds with hkind | hkind
  · obtain ⟨i, hi⟩ := accepts_station h (by rw [hkind]; decide)
    refine ⟨.station i, hi, ?_⟩
    rw [← hwrite]
    simp only [acceptStaged, stagedKind_eq_some.mpr (show s.staging.kind = kindCode .postedWrite from hkind),
      stationAt_eq_some.mpr hi]
  · have hstation := accepts_not h .badStation (by decide)
    simp only [Refuses, not_or, not_and, not_not] at hstation
    refine ⟨.broadcast, (hstation.2 hkind).symm, ?_⟩
    rw [← hwrite]
    simp only [acceptStaged, stagedKind_eq_some.mpr (show s.staging.kind = kindCode .broadcastWrite from hkind)]

/-- Settles O13: the lowest FREE entry is taken with its words, in the queue of its target. -/
theorem submitAcceptsAPostedRequest : Obligations.SubmitAcceptsAPostedRequest := by
  intro s hready hacc hk
  have hacc' : Accepts (submitting s) := accepts_submitting.mpr hacc
  obtain ⟨p, hp⟩ := accepts_freePosted hacc' hk
  obtain ⟨hfree, hlower⟩ := firstFree_eq_some hp
  have hfree' : (submitting s).postedEntry p = none := hfree
  obtain ⟨target, haddress, hform⟩ := acceptStaged_posted hacc' hk hp
  have hlength : s.staging.data.length = s.staging.count.toNat :=
    accepts_data hacc (by
      have := accepts_kind hacc
      have hcases : s.staging.kind.toNat = 4 ∨ s.staging.kind.toNat = 5 := by omega
      exact .inr (hcases.imp (BitVec.eq_of_toNat_eq ·) (BitVec.eq_of_toNat_eq ·)))
  refine ⟨_, p, { s.staging.posted target with order := s.nextOrder }, exec_submit_of_portReady hready,
    postedEntry_closeOpen_eq_none.mp hfree, fun q hq h => hlower q hq (postedEntry_closeOpen_eq_none.mpr h), ?_⟩
  have hform : acceptStaged (submitting s) =
      markStale target (accepted p.val (acceptPosted p (s.staging.posted target) (submitting s))) := hform
  rw [submit_accepted hacc, hform, acceptPosted_eq_joined]
  have hrow : ∀ q, (markStale target (accepted p.val (joined (submitting s) p (s.staging.posted target)))).postedEntry q =
      if p = q then some { s.staging.posted target with order := s.nextOrder } else (submitting s).postedEntry q :=
    fun q => postedEntry_joined (submitting s) p q _
  have hstation : ∀ i, (markStale target (accepted p.val (joined (submitting s) p (s.staging.posted target)))).station i =
      if target = .station i then { s.station i with queue := (s.station i).queue ++ [.posted p] } else s.station i :=
    fun i => station_joined (submitting s) p _ i
  have hmarked : ∀ (hits : StationId → Prop), (∀ i, hits i ↔ target.covers i = true) → ∀ u,
      Marked hits (s.request u)
        ((markStale target (accepted p.val (joined (submitting s) p (s.staging.posted target)))).request u) :=
    fun hits h u => by
      rw [request_markStale]
      exact marked_staleRow h _
  refine ⟨by rw [hrow, if_pos rfl], rfl, haddress, rfl, stagedMode_increment, rfl, hlength, rfl, rfl, rfl, rfl, rfl,
    fun q hq => ?closed, ?pool, fun hb => ?broadcast, fun i hi => ?station, ?frame⟩
  case closed =>
    rw [hrow, if_neg (Ne.symm hq)]
    exact closed_closeOpen (withCode s 0x10#8) q
  case pool =>
    have := poolUsed_of_row hrow
    rw [hfree', show (submitting s).poolUsed = s.poolUsed from poolUsed_closeOpen _] at this
    simpa [wordsOf, Posted.count, Staging.posted, hlength] using this
  case broadcast =>
    have hb : target = .broadcast := hb
    subst hb
    exact ⟨rfl, rfl, hmarked _ fun i => by simp [Target.covers]⟩
  case station =>
    have hi : target = .station i := hi
    subst hi
    refine ⟨rfl, by rw [hstation, if_pos rfl], fun j hj => ?_, hmarked _ (covers_station i)⟩
    rw [hstation, if_neg]
    intro h
    cases h
    exact hj rfl
  case frame => rfl

/-! ### CANCEL (R26 to R28) -/

/-- CANCEL of the PORT entry PARAMETER names. -/
theorem cancel_port {u : Tag} {r : Request} (hu : s.parameter.toNat = u.val) (hr : s.request u = some r)
    (ho : r.origin = .port) :
    cancel s = if r.unfinished then (cancelEntry u s).setResult .accepted else s.setResult .tooLate := by
  cases hstate : r.state <;> simp [cancel, tagAt_val hu, hr, ho, Request.unfinished, hstate]

/-- Settles O14: each state of the entry has its own arm. -/
theorem cancelActsByEntryState : Obligations.CancelActsByEntryState := by
  intro s hready
  rw [exec_cancel_of_portReady hready]
  refine ⟨fun h => ?_, fun u hu => ⟨fun hr => ?_, fun r w hr ho => ?_, fun r hr ho => ?_⟩⟩
  · have hnone : tagAt (withCode s 0x12#8).parameter.toNat = none := dif_neg (Nat.not_lt.mpr h)
    simp only [cancel, hnone]
    rfl
  · have hr : (withCode s 0x12#8).request u = none := hr
    have hu : (withCode s 0x12#8).parameter.toNat = u.val := hu
    simp only [cancel, tagAt_val hu, hr]
    rfl
  · have hr : (withCode s 0x12#8).request u = some r := hr
    have hu : (withCode s 0x12#8).parameter.toNat = u.val := hu
    simp only [cancel, tagAt_val hu, hr, ho]
    rfl
  · have hr : (withCode s 0x12#8).request u = some r := hr
    rw [cancel_port (s := withCode s 0x12#8) hu hr ho]
    refine ⟨fun status hstate => ?_, fun n hstate => ?_, fun hstate => ?_, fun part hstate => ?_⟩
    · rw [if_neg (by rcases hstate with h | h <;> simp [Request.unfinished, h])]
      rfl
    · have hunfinished : r.unfinished = true := by rcases hstate with h | h <;> simp [Request.unfinished, h]
      have hcompleted := completeRequest_eq_completed .cancelled hr hunfinished
      have hentry : cancelEntry u (withCode s 0x12#8) = completed (withCode s 0x12#8) u r .cancelled := by
        rw [← hcompleted]
        rcases hstate with h | h <;> simp only [cancelEntry, hr, h]
      rw [if_pos hunfinished, hentry]
      rfl
    · rw [if_pos (by simp [Request.unfinished, hstate])]
      simp only [cancelEntry, hr, hstate]
      rfl
    · rw [if_pos (by simp [Request.unfinished, hstate])]
      simp only [cancelEntry, hr, hstate]
      rfl

end Sys2Proof.Proofs
end

section
/-! PROOFS. LINK-STOP, the timers and their tick, and the events on the pair that begin and repeat an attempt. -/

namespace Sys2Proof.Proofs

open Sys2Proof.Machine Sys2Proof.Claims

variable {s t : State}

/-! ### LINK-STOP (R46, R47) -/

/-- LINK-STOP while the link is active. -/
theorem linkStop_active (h : s.link = .enumerating ∨ s.link = .up) :
    linkStop s = drainIfIdle ({ s with link := .draining }.setResult .accepted) := by
  rcases h with h | h <;> simp only [linkStop, h]

theorem linkStop_down (h : s.link = .down) : linkStop s = s.setResult .wrongState := by simp only [linkStop, h]

theorem linkStop_draining (h : s.link = .draining) : linkStop s = s.setResult .busy := by simp only [linkStop, h]

theorem result_drain (s : State) : (drain s).result = s.result := by rw [drain_fields]

theorem command_drain (s : State) : (drain s).command = s.command := by rw [drain_fields]

theorem latchedLink_drain (s : State) : (drain s).latched.link = true := by rw [drain_fields]

theorem stationState_drain (s : State) (i : StationId) : ((drain s).station i).state = .absent := by
  rw [station_drain]
  rfl

/-- What the drain leaves in the Request Table is a finished PORT entry. -/
theorem request_drain_port {u : Tag} {r : Request} (h : (drain s).request u = some r) : r.origin = .port ∧ ¬ Unfinished r := by
  refine ⟨?_, fun hu => ?_⟩
  · rw [request_drain] at h
    obtain ⟨q, -, ho, rfl⟩ := drainedRow_cases h
    split
    · exact ho
    · exact ho
  · have := unfinished_iff.mpr hu
    rw [request_drain_finished h] at this
    cases this

/-- Settles O22: the drain of an active link ends at once with the engine IDLE. -/
theorem linkStopDrainsTheLink : Obligations.LinkStopDrainsTheLink := by
  intro s hready
  rw [exec_linkStop_of_portReady hready]
  refine ⟨fun h => ?down, fun h => ?draining, fun h => ⟨fun hx => ?inFlight, fun hx => ?idle⟩⟩
  case down =>
    exact congrArg _ (linkStop_down (s := withCode s 0x31#8) h)
  case draining =>
    exact congrArg _ (linkStop_draining (s := withCode s 0x31#8) h)
  case inFlight =>
    rw [linkStop_active (s := withCode s 0x31#8) h]
    exact congrArg _ (if_neg fun hboth => hx hboth.2)
  case idle =>
    have hdrain : linkStop (withCode s 0x31#8) =
        drain { withCode s 0x31#8 with result := .accepted, link := .draining } :=
      (linkStop_active (s := withCode s 0x31#8) h).trans (if_pos ⟨rfl, hx⟩)
    rw [hdrain]
    refine ⟨_, rfl, ?_, fun hkept => drained_drain hkept.2.1, result_drain _, command_drain _, link_drain _,
      latchedLink_drain _, ?_, stationState_drain _, postedEntry_drain _, fun u r => request_drain_port⟩
    · exact congrArg Host.Outcome.next (if_pos ⟨rfl, hx⟩)
    · unfold State.lineDriver
      rw [link_drain]
      rfl

/-! ### Expiries (R88, R104, R130, R131, R151, R163) -/

theorem updateRequest_of_none {u : Tag} {f : Request → Request} (h : s.request u = none) : s.updateRequest u f = s := by
  simp only [State.updateRequest, h]

theorem updateRequest_of_some {u : Tag} {f : Request → Request} {r : Request} (h : s.request u = some r) :
    s.updateRequest u f = s.putRequest u (some (f r)) := by simp only [State.updateRequest, h]

theorem updateRequest_of_same {u : Tag} {f : Request → Request} (h : ∀ r, s.request u = some r → f r = r) :
    s.updateRequest u f = s := by
  cases hr : s.request u with
  | none => exact updateRequest_of_none hr
  | some r => rw [updateRequest_of_some hr, h r hr, ← hr, putRequest_same]

theorem updatePosted_of_some {p : PostedIndex} {f : Posted → Posted} {e : Posted} (h : s.postedEntry p = some e) :
    s.updatePosted p f = s.putPosted p (some (f e)) := by simp only [State.updatePosted, h]

theorem updatePosted_of_same {p : PostedIndex} {f : Posted → Posted} (h : ∀ e, s.postedEntry p = some e → f e = e) :
    s.updatePosted p f = s := by
  cases he : s.postedEntry p with
  | none => simp only [State.updatePosted, he]
  | some e => rw [updatePosted_of_some he, h e he, ← he, putPosted_same]

theorem updateStation_of_same {i : StationId} {f : Station → Station} (h : f (s.station i) = s.station i) :
    s.updateStation i f = s := by
  have hst : s.stations.set i (f s.stations[i]) = s.stations := by
    have h : f s.stations[i] = s.stations[i] := h
    rw [h]
    simp
  show { s with stations := s.stations.set i (f s.stations[i]) } = s
  rw [hst]

/-- With exact queues a finished window entry is freed without touching a queue. -/
theorem freeRequest_finished (hq : QueuesExact s) {u : Tag} {r : Request} (hr : s.request u = some r)
    (hfinished : r.unfinished = false) : freeRequest u s = s.putRequest u none := by
  have hnot : EntryRef.request u ∉ (s.station r.station).queue := fun hmem => by
    have := (hq.1 r.station u).mp hmem
    rw [hr] at this
    simp [hfinished] at this
  simp only [freeRequest, hr]
  rw [dequeue_of_not_mem s r.station (.request u) hnot]

/-- The expiry of a poll timer. -/
theorem pollTimer_cases (st : Station) :
    (st.pollTimer = none → st.pollExpired = st) ∧
      (st.pollTimer ≠ none →
        st.pollExpired = { st with pollTimer := none, pollDue := st.pollDue || st.attentionCapable }) := by
  unfold Station.pollExpired Station.makePollDue
  cases st.pollTimer with
  | none => exact ⟨fun _ => rfl, fun h => absurd rfl h⟩
  | some n =>
    refine ⟨nofun, fun _ => ?_⟩
    dsimp only
    split
    next h => simp [h]
    next h => simp [h]

/-- Settles O39: each expiry is read off the state its timer runs in. -/
theorem timersExpireInTheirState : Obligations.TimersExpireInTheirState := by
  refine ⟨fun s i => ⟨fun h => ?pollStopped, fun h => ?poll⟩, fun s u => ⟨fun h => ?backoffStopped, fun h => ?collectStopped,
    fun h => ?parkStopped, fun h => ?discardStopped, fun r n hr hstate => ?backoff, fun r part n hr hstate hrun => ?collect,
    fun r part n hr hstate hrun => ?park, fun r w n status hq hr ho hrun hstate => ?discard, fun p => ⟨fun h => ?postedStopped,
      fun e n he hstate => ?posted⟩⟩⟩
  case pollStopped => exact congrArg _ (updateStation_of_same ((pollTimer_cases _).1 h))
  case poll =>
    refine congrArg Host.Outcome.next ?_
    show { s with stations := s.stations.set i (Station.pollExpired (s.station i)) } = _
    rw [(pollTimer_cases _).2 h]
  case backoffStopped =>
    refine congrArg _ (updateRequest_of_same fun r hr => ?_)
    rw [hr] at h
    unfold Request.backoffExpired
    cases hstate : r.state <;> simp [backoffLeft, hstate] at h ⊢
  case collectStopped =>
    refine congrArg _ (updateRequest_of_same fun r hr => ?_)
    rw [hr] at h
    unfold Request.collectExpired
    cases hstate : r.state with
    | parked part => cases hc : part.collect <;> simp [collectLeft, hstate, hc] at h ⊢
    | _ => rfl
  case parkStopped =>
    refine congrArg _ (updateRequest_of_same fun r hr => ?_)
    rw [hr] at h
    unfold Request.parkExpired
    cases hstate : r.state with
    | parked part => cases hp : part.park <;> simp [parkLeft, hstate, hp] at h ⊢
    | _ => rfl
  case discardStopped =>
    refine congrArg Host.Outcome.next ?_
    cases hr : s.request u with
    | none => simp only [discardExpired, hr]
    | some r =>
      cases ho : r.origin with
      | port => simp only [discardExpired, hr, ho]
      | window w =>
        cases hstate : r.state with
        | done status =>
          have hstopped := h r status hr hstate
          simp only [discardLeft, ho] at hstopped
          simp only [discardExpired, hr, ho, hstate, hstopped]
        | _ => simp only [discardExpired, hr, ho, hstate]
  case backoff =>
    refine congrArg Host.Outcome.next ((updateRequest_of_some hr).trans ?_)
    simp only [Request.backoffExpired, hstate]
    rfl
  case collect =>
    refine congrArg Host.Outcome.next ((updateRequest_of_some hr).trans ?_)
    simp only [Request.collectExpired, hstate, hrun]
    rfl
  case park =>
    refine congrArg Host.Outcome.next ((updateRequest_of_some hr).trans ?_)
    simp only [Request.parkExpired, hstate, hrun]
    rfl
  case discard =>
    refine congrArg Host.Outcome.next ?_
    have hfinished : r.unfinished = false := by simp [Request.unfinished, hstate]
    simp only [discardExpired, hr, ho, hstate, hrun]
    rw [freeRequest_finished hq hr hfinished]
    rfl
  case postedStopped =>
    refine congrArg _ (updatePosted_of_same fun e he => ?_)
    rw [he] at h
    unfold Posted.backoffExpired
    cases hstate : e.state <;> simp [postedBackoffLeft, hstate] at h ⊢
  case posted =>
    refine congrArg Host.Outcome.next ((updatePosted_of_some he).trans ?_)
    simp only [Posted.backoffExpired, hstate]
    rfl

end Sys2Proof.Proofs
end

section
/-! PROOFS. The tick of the timebase (R186), and the events on the pair that begin and repeat an attempt. -/

namespace Sys2Proof.Proofs

open Sys2Proof.Machine Sys2Proof.Claims

variable {s t : State}

/-! ### The tick -/

theorem request_tick (s : State) (u : Tag) : (tick s).request u = (s.request u).map Request.tick := tabulate_get _ u

theorem postedEntry_tick (s : State) (p : PostedIndex) : (tick s).postedEntry p = (s.postedEntry p).map Posted.tick :=
  tabulate_get _ p

theorem station_tick (s : State) (i : StationId) : (tick s).station i = (s.station i).tick := tabulate_get _ i

/-- What a tick does to the timers of a request entry, and to nothing else of it. -/
theorem request_ticked (row : Option Request) :
    (row.map Request.tick).map untimedRequest = row.map untimedRequest ∧
      backoffLeft (row.map Request.tick) = (backoffLeft row).map (· - 1) ∧
      parkLeft (row.map Request.tick) = (parkLeft row).map (· - 1) ∧
      collectLeft (row.map Request.tick) = (collectLeft row).map (· - 1) ∧
      discardLeft (row.map Request.tick) = (discardLeft row).map (· - 1) := by
  cases row with
  | none => exact ⟨rfl, rfl, rfl, rfl, rfl⟩
  | some r =>
    have horigin : discardLeft (some r.tick) = (discardLeft (some r)).map (· - 1) := by
      cases ho : r.origin <;> simp [discardLeft, Request.tick, ho, tickTimer]
    have huntimed : untimedRequest r.tick = untimedRequest r := by
      cases ho : r.origin with
      | port =>
        cases hstate : r.state with
        | parked part =>
          cases hc : part.collect <;> simp [untimedRequest, Request.tick, ho, hstate, hc, tickTimer, CollectTimer.tick, Function.comp_def]
        | _ => simp [untimedRequest, Request.tick, ho, hstate]
      | window w =>
        cases hstate : r.state with
        | parked part =>
          cases hc : part.collect <;> simp [untimedRequest, Request.tick, ho, hstate, hc, tickTimer, CollectTimer.tick, Function.comp_def]
        | _ => simp [untimedRequest, Request.tick, ho, hstate, tickTimer, Function.comp_def]
    refine ⟨congrArg some huntimed, ?_, ?_, ?_, horigin⟩
    · cases hstate : r.state <;> simp [backoffLeft, Request.tick, hstate]
    · cases hstate : r.state <;> simp [parkLeft, Request.tick, hstate, tickTimer]
    · cases hstate : r.state with
      | parked part => cases hc : part.collect <;> simp [collectLeft, Request.tick, hstate, hc, CollectTimer.tick]
      | _ => simp [collectLeft, Request.tick, hstate]

theorem posted_ticked (row : Option Posted) :
    (row.map Posted.tick).map untimedPosted = row.map untimedPosted ∧
      postedBackoffLeft (row.map Posted.tick) = (postedBackoffLeft row).map (· - 1) := by
  cases row with
  | none => exact ⟨rfl, rfl⟩
  | some e => cases hstate : e.state <;> simp [untimedPosted, postedBackoffLeft, Posted.tick, hstate]

theorem exchange_ticked (x : Option Exchange) :
    (x.map Exchange.tick).map untimedExchange = x.map untimedExchange ∧
      engineLeft (x.map Exchange.tick) = (engineLeft x).map (· - 1) := by
  cases x with
  | none => exact ⟨rfl, rfl⟩
  | some x => cases hp : x.phase <;> simp [untimedExchange, engineLeft, Exchange.tick, hp]

theorem access_ticked (a : Option HeldAccess) :
    (a.map HeldAccess.tick).map untimedAccess = a.map untimedAccess ∧
      holdLeft (a.map HeldAccess.tick) = (holdLeft a).map (· - 1) := by
  cases a with
  | none => exact ⟨rfl, rfl⟩
  | some a => cases a <;> exact ⟨rfl, rfl⟩

/-! ### The expiries that are due -/

theorem mem_dueHold {c : Instr} : c ∈ s.dueHold ↔
    (c = .readHoldExpiry ∧ ∃ u a, s.access = some (.read u a 0)) ∨
      (c = .writeHoldExpiry ∧ ∃ a v, s.access = some (.write a v 0)) := by
  unfold State.dueHold
  split
  next h => simp [h]
  next h => simp [h]
  next h1 h2 =>
    have hr : ¬ ∃ u a, s.access = some (.read u a 0) := fun ⟨u, a, h⟩ => h1 u a h
    have hw : ¬ ∃ a v, s.access = some (.write a v 0) := fun ⟨a, v, h⟩ => h2 a v h
    simp [hr, hw]

theorem mem_dueEngine {c : Instr} : c ∈ s.dueEngine ↔
    (c = .pairActiveTimeout ∧ ∃ x, s.exchange = some x ∧ x.phase = .pairWait 0) ∨
      (c = .replyWindowClose ∧ ∃ x, s.exchange = some x ∧ x.phase = .window 0) ∨
      (c = .broadcastGapEnd ∧ ∃ x, s.exchange = some x ∧ x.phase = .gap 0) := by
  unfold State.dueEngine
  cases hx : s.exchange with
  | none => simp
  | some x =>
    dsimp only
    split
    next h => simp [h]
    next h => simp [h]
    next h => simp [h]
    next h1 h2 h3 => simpa using ⟨fun _ h => h1 h, fun _ h => h2 h, fun _ h => h3 h⟩

theorem mem_dueRequest {c : Instr} {u : Tag} : c ∈ s.dueRequest u ↔
    (c = .busyBackoffExpiry (.request u) ∧ backoffLeft (s.request u) = some 0) ∨
      (c = .collectTimerExpiry u ∧ collectLeft (s.request u) = some 0) ∨
      (c = .parkTimerExpiry u ∧ parkLeft (s.request u) = some 0) ∨
      (c = .discardTimerExpiry u ∧ discardLeft (s.request u) = some 0) := by
  unfold State.dueRequest
  cases hr : s.request u with
  | none => simp [backoffLeft, collectLeft, parkLeft, discardLeft]
  | some r =>
    dsimp only
    rw [List.mem_append, ← or_assoc, ← or_assoc]
    refine or_congr ?_ ?_
    · split
      next h => simp [backoffLeft, collectLeft, parkLeft, h]
      next part h =>
        have hcollect : collectLeft (some r) = some 0 ↔ part.collect = .running 0 := by
          cases hc : part.collect <;> simp [collectLeft, h, hc]
        rw [hcollect]
        by_cases hrun : part.collect = .running 0 <;> by_cases hpark : part.park = some 0 <;>
          simp [backoffLeft, parkLeft, h, hrun, hpark]
      next hwaiting hparked =>
        cases hstate : r.state with
        | waiting n => 
          have hn : n ≠ 0 := fun h => hwaiting (h ▸ hstate)
          simp [backoffLeft, collectLeft, parkLeft, hstate, hn]
        | parked part => exact absurd hstate (hparked part)
        | _ => simp [backoffLeft, collectLeft, parkLeft, hstate]
    · cases ho : r.origin with
      | port => simp [discardLeft, ho]
      | window w => by_cases hw : w.discard = some 0 <;> simp [discardLeft, ho, hw]

theorem mem_duePosted {c : Instr} {p : PostedIndex} : c ∈ s.duePosted p ↔
    c = .busyBackoffExpiry (.posted p) ∧ postedBackoffLeft (s.postedEntry p) = some 0 := by
  unfold State.duePosted
  cases hp : s.postedEntry p with
  | none => simp [postedBackoffLeft]
  | some e => cases hstate : e.state <;> simp [postedBackoffLeft, hstate, and_comm]

theorem mem_dueStation {c : Instr} {i : StationId} : c ∈ s.dueStation i ↔
    c = .pollTimerExpiry i ∧ (s.station i).pollTimer = some 0 := by
  unfold State.dueStation
  by_cases h : (s.station i).pollTimer = some 0 <;> simp [h]

/-- The expiries a tick queues are exactly the due ones (R71, R88, R129, R163). -/
theorem mem_dueExpiries {c : Instr} : c ∈ s.dueExpiries ↔ Due s c := by
  simp only [State.dueExpiries, List.mem_append, List.mem_flatMap, List.mem_finRange, true_and, mem_dueHold,
    mem_dueEngine, mem_dueRequest, mem_duePosted, mem_dueStation]
  cases c with
  | busyBackoffExpiry e => cases e <;> simp [Due]
  | _ => simp [Due]

/-- Settles O2: an empty queue's step is `tick`, timer by timer; the expiries due are queued. -/
theorem emptyQueueTicksTheTimebase : Obligations.EmptyQueueTicksTheTimebase := by
  intro s hpending hidle
  have hstep : step s = .next (tick s) := by rw [step, hpending]; exact congrArg _ (whenIdle_of_not hidle)
  refine ⟨tick s, hstep, fun c => ?_, fun u => ?_, fun p => ?_, station_tick s, (exchange_ticked _).1,
    (exchange_ticked _).2, (access_ticked _).1, (access_ticked _).2, rfl⟩
  · rw [show (tick s).pending = s.dueExpiries from by rw [tick, hpending]; rfl]
    exact mem_dueExpiries
  · rw [request_tick]; exact request_ticked _
  · rw [postedEntry_tick]; exact posted_ticked _

/-! ### The events on the pair -/

/-- The state with the phase of its exchange moved. -/
def withPhase (x : Exchange) (phase : EnginePhase) (s : State) : State :=
  { s with exchange := some { x with phase := phase } }

variable {x : Exchange}

theorem beginFrame_pairWait {n : Nat} (hx : s.exchange = some x) (hp : x.phase = .pairWait n) :
    beginFrame s = withPhase x (.sending s.settings.bitRate) s := by
  simp only [beginFrame, hx, hp]; rfl

theorem beginFrame_other (h : ∀ x n, s.exchange = some x → x.phase ≠ .pairWait n) : beginFrame s = s := by
  unfold beginFrame
  split
  next x hx =>
    split
    next n hp => exact absurd hp (h x n hx)
    all_goals rfl
  next => rfl

theorem frameSent_sending {rate : BitVec 2} (hx : s.exchange = some x) (hp : x.phase = .sending rate) :
    (x.kind ≠ .broadcast → frameSent s = withPhase x (.window s.settings.replyTicks) s) ∧
      (x.kind = .broadcast → frameSent s = s) :=
  ⟨fun hk => by simp only [frameSent, hx, hp, if_neg hk]; rfl, fun hk => by simp only [frameSent, hx, hp, if_pos hk]⟩

theorem broadcastFrameSent_sending {rate : BitVec 2} (hx : s.exchange = some x) (hp : x.phase = .sending rate) :
    (x.kind = .broadcast → broadcastFrameSent s = withPhase x (.gap s.settings.replyTicks) s) ∧
      (x.kind ≠ .broadcast → broadcastFrameSent s = s) :=
  ⟨fun hk => by simp only [broadcastFrameSent, hx, hp, if_pos hk]; rfl,
    fun hk => by simp only [broadcastFrameSent, hx, hp, if_neg hk]⟩

theorem sent_other (h : ∀ x rate, s.exchange = some x → x.phase ≠ .sending rate) :
    frameSent s = s ∧ broadcastFrameSent s = s := by
  unfold frameSent broadcastFrameSent
  cases hx : s.exchange with
  | none => exact ⟨rfl, rfl⟩
  | some x =>
    cases hp : x.phase with
    | sending rate => exact absurd hp (h x rate hx)
    | _ => simp [hp]

theorem receptionBegin_window {n : Nat} (hx : s.exchange = some x) (hp : x.phase = .window n) :
    receptionBegin s = withPhase x (.receiving s.settings.bitRate) s := by
  simp only [receptionBegin, hx, hp]; rfl

theorem receptionBegin_other (h : ∀ x n, s.exchange = some x → x.phase ≠ .window n) : receptionBegin s = s := by
  unfold receptionBegin
  split
  next x hx =>
    split
    next n hp => exact absurd hp (h x n hx)
    all_goals rfl
  next => rfl

/-- Settles O45: each event moves the phase it is for, and is without effect in any other. -/
theorem pairEventsMoveThePhase : Obligations.PairEventsMoveThePhase := by
  intro s rc
  have hnext {f : State → State} (h : f s = s) : Host.Outcome.next (φ := Fault) (ρ := Refusal) (f s) = .next s :=
    congrArg _ h
  refine ⟨rfl, fun hnone => ?_, fun x hx => ?_⟩
  · have hno {P : Exchange → Nat → Prop} : ∀ y n, s.exchange = some y → P y n := fun y n hy => by
      rw [hnone] at hy; cases hy
    have hsent := sent_other (s := s) fun y n hy => by rw [hnone] at hy; cases hy
    exact ⟨hnext (beginFrame_other hno), hnext (beginFrame_other hno), hnext hsent.1, hnext hsent.2,
      hnext (receptionBegin_other hno)⟩
  · have hthis {y : Exchange} (hy : s.exchange = some y) : y = x := Option.some.inj (hy.symm.trans hx)
    refine ⟨fun n hp => ?_, fun hp => ?_, fun rate hp => ⟨fun hk => ?_, fun hk => ?_⟩, fun hp => ?_,
      fun n hp => congrArg _ (receptionBegin_window hx hp), fun hp => ?_⟩
    · exact ⟨congrArg _ (beginFrame_pairWait hx hp), congrArg _ (beginFrame_pairWait hx hp)⟩
    · have := beginFrame_other (s := s) fun y n hy => hthis hy ▸ hp n
      exact ⟨hnext this, hnext this⟩
    · exact ⟨congrArg _ ((frameSent_sending hx hp).1 hk), hnext ((broadcastFrameSent_sending hx hp).2 hk)⟩
    · exact ⟨congrArg _ ((broadcastFrameSent_sending hx hp).1 hk), hnext ((frameSent_sending hx hp).2 hk)⟩
    · have := sent_other (s := s) fun y n hy => hthis hy ▸ hp n
      exact ⟨hnext this.1, hnext this.2⟩
    · exact hnext (receptionBegin_other fun y n hy => hthis hy ▸ hp n)

/-! ### Attempts without a valid reply -/

theorem attemptFailed_repeats (h : x.attempt < x.limit) : attemptFailed x s =
    withPhase { x with attempt := x.attempt + 1 } (.pairWait s.settings.replyTicks) s :=
  if_pos h

theorem attemptFailed_last (h : x.limit ≤ x.attempt) : attemptFailed x s = endExchange x (applyFailed x) s :=
  if_neg (Nat.not_lt.mpr h)

theorem replyWindowClose_window {n : Nat} (hx : s.exchange = some x) (hp : x.phase = .window n) :
    replyWindowClose s = attemptFailed x s := by
  simp only [replyWindowClose, hx, hp]

theorem replyWindowClose_other (h : ∀ x n, s.exchange = some x → x.phase ≠ .window n) : replyWindowClose s = s := by
  unfold replyWindowClose
  split
  next x hx =>
    split
    next n hp => exact absurd hp (h x n hx)
    all_goals rfl
  next => rfl

theorem receptionOverrun_receiving {rate : BitVec 2} (hx : s.exchange = some x) (hp : x.phase = .receiving rate) :
    receptionOverrun s = attemptFailed x s := by
  simp only [receptionOverrun, hx, hp]

theorem receptionEnd_bad {rate : BitVec 2} {rc : Reception} (hx : s.exchange = some x) (hp : x.phase = .receiving rate)
    (hbad : s.judgement x rc = none) : receptionEnd rc s = attemptFailed x s := by
  simp only [receptionEnd, hx, hp, hbad]

theorem receptionEnd_valid {rate : BitVec 2} {rc : Reception} {reply : Reply} (hx : s.exchange = some x)
    (hp : x.phase = .receiving rate) (hvalid : s.judgement x rc = some reply) :
    receptionEnd rc s = endExchange x (applyReply x reply) s := by
  simp only [receptionEnd, hx, hp, hvalid]

theorem reception_other {rc : Reception} (h : ∀ x rate, s.exchange = some x → x.phase ≠ .receiving rate) :
    receptionOverrun s = s ∧ receptionEnd rc s = s := by
  unfold receptionOverrun receptionEnd
  cases hx : s.exchange with
  | none => exact ⟨rfl, rfl⟩
  | some x =>
    cases hp : x.phase with
    | receiving rate => exact absurd hp (h x rate hx)
    | _ => simp [hp]

/-- Settles O46: while attempts remain, a silent or bad attempt is `attemptFailed`, which begins the next one. -/
theorem attemptWithoutReplyIsRepeated : Obligations.AttemptWithoutReplyIsRepeated := by
  intro s rc
  refine ⟨fun h => congrArg _ (replyWindowClose_other h), fun h => ?_, fun x hx hleft => ?_⟩
  · exact ⟨congrArg _ (reception_other (rc := rc) h).1, congrArg _ (reception_other h).2⟩
  · have hagain := attemptFailed_repeats (s := s) hleft
    refine ⟨fun n hp => congrArg _ ((replyWindowClose_window hx hp).trans hagain), fun rate hp => ⟨?_, fun hbad => ?_⟩⟩
    · exact congrArg _ ((receptionOverrun_receiving hx hp).trans hagain)
    · exact congrArg _ ((receptionEnd_bad hx hp hbad).trans hagain)

end Sys2Proof.Proofs
end

section
/-! PROOFS. REGISTER_WRITE (R184, R185, R188): what a plain location stores and what every other location goes on reading. -/

namespace Sys2Proof.Proofs

open Sys2Proof.Machine Sys2Proof.Claims

variable {s : State} {location other : BitVec 6} {v : Word}

/-! ### Ranges -/

theorem offered_nonzero {w top : Nat} (kept value : BitVec w) {offer : Nat} (hvalue : value.toNat = offer)
    (htop : offer ≤ top) : Offered 1 top kept.toNat offer (offered nonzero kept value).toNat := by
  subst hvalue
  have hpos : nonzero value = true ↔ 1 ≤ value.toNat := by
    rw [nonzero, bne_iff_ne, Ne, ← BitVec.toNat_inj]; exact Nat.one_le_iff_ne_zero.symm
  refine ⟨fun h => ?_, fun h => ?_⟩
  · rw [offered, if_pos (hpos.mpr h.1)]
  · rw [offered, if_neg fun hn => h ⟨hpos.mp hn, htop⟩]

theorem offered_window (kept value : Byte) {offer : Nat} (hvalue : value.toNat = offer) (htop : offer ≤ 255) :
    Offered 4 255 kept.toNat offer (offered (fun x : Byte => 4 ≤ x.toNat) kept value).toNat := by
  subst hvalue
  refine ⟨fun h => ?_, fun h => ?_⟩
  · rw [offered, if_pos (decide_eq_true h.1)]
  · rw [offered, if_neg fun hn => h ⟨of_decide_eq_true hn, htop⟩]

theorem lowByte_toNat (v : Word) : (v.extractLsb' 0 8).toNat = v.toNat % 256 := by simp [BitVec.extractLsb'_toNat]

theorem highByte_toNat (v : Word) : (v.extractLsb' 8 8).toNat = v.toNat / 256 := by
  have := v.isLt
  simp only [BitVec.extractLsb'_toNat, Nat.shiftRight_eq_div_pow]
  omega

/-! ### Stored bits -/

theorem place_extract (v : Word) (p w : Nat) : place p (v.extractLsb' p w) = v &&& place p (BitVec.allOnes w) := by
  refine BitVec.eq_of_getLsbD_eq fun i hi => ?_
  have hones : (place p (BitVec.allOnes w)).getLsbD i = decide (p ≤ i ∧ i < p + w) := by
    by_cases hp : p ≤ i
    · have hlt : i - p < w ↔ i < p + w := by omega
      simp [place, hi, hp, hlt]
    · simp [place, hp]
  rw [getLsbD_place_extract v p w i hi, BitVec.getLsbD_and, hones, Bool.and_comm]

/-- Locations all of whose assigned bits are stored read back what was written of them. -/
theorem plainWrite_stored {mask : Word} (h : (location, mask) ∈ storedMasks) :
    (plainWrite location v s).readLocation location = v &&& mask := by
  have hwhole : v = v &&& 0xFFFF#16 := (BitVec.and_allOnes).symm
  have hstations : place 1 (v.extractLsb' 1 14) = v &&& 0x7FFE#16 := place_extract v 1 14
  simp only [storedMasks, List.mem_cons, List.not_mem_nil, or_false, Prod.mk.injEq] at h
  rcases h with ⟨rfl, rfl⟩ | ⟨rfl, rfl⟩ | ⟨rfl, rfl⟩ | ⟨rfl, rfl⟩ | ⟨rfl, rfl⟩ | ⟨rfl, rfl⟩ | ⟨rfl, rfl⟩ | ⟨rfl, rfl⟩ |
    ⟨rfl, rfl⟩ | ⟨rfl, rfl⟩
  case inr.inl =>
    show place 0 (v.extractLsb' 0 4) ||| place 4 (v.extractLsb' 4 1) ||| place 8 (v.extractLsb' 8 3) = _
    rw [place_extract, place_extract, place_extract, ← BitVec.and_or_distrib_left, ← BitVec.and_or_distrib_left]
    rfl
  case inr.inr.inl =>
    show place 0 (v.extractLsb' 0 4) ||| place 8 (v.extractLsb' 8 5) = _
    rw [place_extract, place_extract, ← BitVec.and_or_distrib_left]
    rfl
  case inr.inr.inr.inr.inr.inr.inr.inr.inl => exact hstations
  case inr.inr.inr.inr.inr.inr.inr.inr.inr => exact hstations
  all_goals exact hwhole

theorem plainWrite_readOnly (h : location ∈ readOnly) : plainWrite location v s = s := by
  simp only [readOnly, List.mem_cons, List.not_mem_nil, or_false] at h
  rcases h with rfl | rfl | rfl | rfl | rfl | rfl | rfl | rfl | rfl | rfl | rfl | rfl | rfl | rfl | rfl | rfl | rfl | rfl |
    rfl | rfl | rfl | rfl | rfl <;> rfl

theorem stationSelectWrite_eq (v : Word) (s : State) :
    stationSelectWrite v s = s ∨ ∃ i, stationSelectWrite v s = { s with stationSelect := i } := by
  unfold stationSelectWrite
  split
  · exact .inl rfl
  · exact .inr ⟨_, rfl⟩

/-! ### The other locations -/

theorem readLocation_of_not_select {i : StationId} (h : other ∉ [0x23#6, 0x24#6, 0x25#6, 0x26#6]) :
    ({ s with stationSelect := i } : State).readLocation other = s.readLocation other := by
  have hne : ∀ n, n ∈ [0x23, 0x24, 0x25, 0x26] → other.toNat ≠ n := fun n hn he => by
    refine h ?_
    have : other = BitVec.ofNat 6 n := by rw [← he]; simp
    revert this hn
    simp only [List.mem_cons, List.not_mem_nil, or_false]
    rintro (rfl | rfl | rfl | rfl) rfl <;> decide
  unfold State.readLocation
  split
  case h_35 hn => exact absurd hn (hne _ (by decide))
  case h_36 hn => exact absurd hn (hne _ (by decide))
  case h_37 hn => exact absurd hn (hne _ (by decide))
  case h_38 hn => exact absurd hn (hne _ (by decide))
  all_goals rfl

/-- A plain write changes no other location's reading but those STATION SELECT selects. -/
theorem plainWrite_other (h : other ∉ [location, 0x24#6, 0x25#6, 0x26#6]) :
    (plainWrite location v s).readLocation other = s.readLocation other := by
  have hne : other.toNat ≠ location.toNat := fun he => h (by simp [BitVec.eq_of_toNat_eq he])
  unfold plainWrite
  split
  case h_9 hl =>
    rcases stationSelectWrite_eq v s with he | ⟨i, he⟩
    · rw [he]
    · rw [he]
      exact readLocation_of_not_select (by simpa [BitVec.eq_of_toNat_eq (y := 0x23#6) hl] using h)
  case h_16 hl =>
    have hstatus : other.toNat ≠ 0x24 := fun he => h (by simp [BitVec.eq_of_toNat_eq (y := 0x24#6) he])
    unfold State.readLocation
    split <;> try rfl
    · next hn => exact absurd hn hstatus
    · next hn => exact absurd (hn.trans hl.symm) hne
  case h_17 => rfl
  all_goals
    unfold State.readLocation
    split <;> try rfl
    next hl _ hn => exact absurd (hn.trans hl.symm) hne

/-- A location of a plain write has no row of its own. -/
theorem writeLocation_plain (h : (Instr.registerWrite location v).wf = true) :
    writeLocation location v s = plainWrite location v s := by
  obtain ⟨hbelow, hplain⟩ : location < 0x30#6 ∧ location ∉ ownRowLocations := by simpa [Instr.wf] using h
  have hown {n : Nat} (hn : location.toNat = n) : BitVec.ofNat 6 n ∉ ownRowLocations := by
    rw [← hn]; simpa using hplain
  unfold writeLocation
  split
  case h_10 => exact if_neg (Nat.not_le.mpr hbelow)
  all_goals next hn => exact absurd (by decide) (hown hn)

/-! ### What a write leaves alone -/

theorem plainWrite_frame (location : BitVec 6) (v : Word) (s : State) :
    { plainWrite location v s with
        staging :=
          { (plainWrite location v s).staging with data := s.staging.data, overflow := s.staging.overflow }
        settings :=
          { (plainWrite location v s).settings with
            timebaseDivisor := s.settings.timebaseDivisor, windowStation := s.settings.windowStation
            pageBase := s.settings.pageBase, prefetch := s.settings.prefetch } } = plainWrite location v s ∧
      { plainWrite location v s with
        parameter := s.parameter, staging := s.staging, settings := s.settings,
        stationSelect := s.stationSelect } = s := by
  unfold plainWrite
  split
  case h_9 =>
    rcases stationSelectWrite_eq v s with he | ⟨i, he⟩ <;> rw [he] <;> exact ⟨rfl, rfl⟩
  all_goals exact ⟨rfl, rfl⟩

theorem stationSelectWrite_taken {i : StationId} (hi : stationAddress i = v.toNat % 16) :
    stationSelectWrite v s = { s with stationSelect := i } := by
  rw [stationSelectWrite, nibble_toNat, stationAt_eq_some.mpr hi]

theorem stationSelectWrite_ignored (h : v.toNat % 16 = 0 ∨ v.toNat % 16 = 15) : stationSelectWrite v s = s := by
  rw [stationSelectWrite, nibble_toNat, stationAt_eq_none.mpr (by omega)]

/-- Settles O33: the register map reads live state, and a plain write stores the bits in range of its own location. -/
theorem registerWriteStoresInRangeFields : Obligations.RegisterWriteStoresInRangeFields := by
  refine ⟨fun s => ⟨liveReads s, settingReads s⟩, fun s location v hready hwf => ?_⟩
  have hv := v.isLt
  have hlow : v.toNat % 256 ≤ 255 := by omega
  have hhigh : v.toNat / 256 ≤ 255 := by omega
  have hexec : exec (.registerWrite location v) s = .next (plainWrite location v s) :=
    (exec_onPort_ready (writeLocation location v) hready rfl).trans (congrArg _ (writeLocation_plain hwf))
  refine ⟨plainWrite location v s, hexec, plainWrite_readOnly,
    fun mask => plainWrite_stored, fun other => plainWrite_other, ?select, ?link, ?busy, ?park, ?poll, ?discard,
    plainWrite_frame location v s⟩
  case select =>
    rintro rfl
    exact ⟨fun i hi => stationSelectWrite_taken hi, stationSelectWrite_ignored⟩
  case link =>
    rintro rfl
    refine ⟨offered_window _ _ (lowByte_toNat v) hlow, ?_, ?_⟩
    · show (v.extractLsb' 8 2).toNat = _
      simp [BitVec.extractLsb'_toNat, Nat.shiftRight_eq_div_pow]
    · show (v.extractLsb' 12 4).toNat = _
      simp only [BitVec.extractLsb'_toNat, Nat.shiftRight_eq_div_pow]
      omega
  case busy =>
    rintro rfl
    exact ⟨lowByte_toNat v, offered_nonzero _ _ (highByte_toNat v) hhigh⟩
  case park =>
    rintro rfl
    exact ⟨offered_nonzero _ _ (lowByte_toNat v) hlow, offered_nonzero _ _ (highByte_toNat v) hhigh⟩
  case poll =>
    rintro rfl
    refine ⟨offered_nonzero _ _ (lowByte_toNat v) hlow, offered_nonzero _ _ ?_ (by omega)⟩
    simp [BitVec.extractLsb'_toNat, Nat.shiftRight_eq_div_pow]
  case discard =>
    rintro rfl
    exact offered_nonzero _ _ (lowByte_toNat v) hlow

end Sys2Proof.Proofs
end

section
/-! PROOFS. Aperture reads (R143 to R148): a match is the one accepted earliest; a miss is refused or served. -/

namespace Sys2Proof.Proofs

open Sys2Proof.Machine Sys2Proof.Claims

variable {s : State} {o : BitVec 4} {u : Tag} {r : Request} {w : WindowPart}

/-! ### The entry accepted earliest -/

/-- The search in order of acceptance finds the entry that passes the test before every other one. -/
theorem requestsWhere_head {test : Request → Bool} (hr : s.request u = some r) (htest : test r = true)
    (hfirst : ∀ v q, v ≠ u → s.request v = some q → test q = true → r.order < q.order) :
    (s.requestsWhere test).head? = some u := by
  have hmem : u ∈ s.requestsWhere test := requestsWhere_mem.mpr ⟨r, hr, htest⟩
  have hsorted := sorted_inOrder (order := Request.order) (row := fun u => (s.request u).filter test)
  rw [← requestsWhere_eq] at hsorted
  cases hl : s.requestsWhere test with
  | nil => rw [hl] at hmem; cases hmem
  | cons v rest =>
    rw [hl] at hmem hsorted
    by_cases hv : v = u
    · rw [hv]; rfl
    · obtain ⟨q, hq, hqtest⟩ := requestsWhere_mem.mp (hl ▸ List.mem_cons_self : v ∈ s.requestsWhere test)
      have hafter := List.rel_of_pairwise_cons hsorted ((List.mem_cons.mp hmem).resolve_left (Ne.symm hv)) q r
        (by simp [hq, hqtest]) (by simp [hr, htest])
      exact absurd (hfirst v q hv hq hqtest) (by omega)

theorem requestsWhere_head_none {test : Request → Bool} (h : ∀ u r, s.request u = some r → test r = false) :
    (s.requestsWhere test).head? = none := by
  rw [List.head?_eq_none_iff, List.eq_nil_iff_forall_not_mem]
  intro u hu
  obtain ⟨r, hr, htest⟩ := requestsWhere_mem.mp hu
  rw [h u r hr] at htest
  cases htest

theorem matches_iff {a : Word} (hr : s.request u = some r) :
    r.matches s.settings.windowStation a = true ↔ ∃ w, Matches s u r w a := by
  unfold Request.matches Matches
  cases ho : r.origin with
  | port => simp
  | window w => simp [hr, and_assoc]

theorem windowMatch_earliest {a : Word} (h : EarliestMatch s u r w a) : s.windowMatch a = some u := by
  obtain ⟨hmatch, hfirst⟩ := h
  refine requestsWhere_head hmatch.1 ((matches_iff hmatch.1).mpr ⟨w, hmatch⟩) fun v q hv hq htest => ?_
  obtain ⟨y, hy⟩ := (matches_iff hq).mp htest
  exact hfirst v q y hv hy

theorem windowMatch_none {a : Word} (h : ∀ u r w, ¬ Matches s u r w a) : s.windowMatch a = none :=
  requestsWhere_head_none fun u r hr => Bool.eq_false_iff.mpr fun htest =>
    have ⟨w, hw⟩ := (matches_iff hr).mp htest
    h u r w hw

/-! ### Matches -/

theorem apertureRead_finished (hm : s.windowMatch (reached s o) = some u) (hr : s.request u = some r)
    (ho : r.origin = .window w) {status : Status} (hstate : r.state = .done status ∨ r.state = .delivered status) :
    apertureRead o s = answer u r w status (reached s o) (closeOpen s) := by
  have hm : (closeOpen s).windowMatch (apertureAddress (closeOpen s).settings o) = some u := hm
  rcases hstate with hstate | hstate <;> simp only [apertureRead, hm, request_closeOpen, hr, ho, hstate] <;> rfl

theorem apertureRead_unfinished (hm : s.windowMatch (reached s o) = some u) (hr : s.request u = some r)
    (ho : r.origin = .window w) (hstate : Unfinished r) :
    apertureRead o s = beginReadHold u r w (reached s o) (closeOpen s) := by
  have hm : (closeOpen s).windowMatch (apertureAddress (closeOpen s).settings o) = some u := hm
  have hun := unfinished_iff.mpr hstate
  simp only [apertureRead, hm, request_closeOpen, hr, ho]
  cases hs : r.state with
  | done status | delivered status => simp [Request.unfinished, hs] at hun
  | _ => rfl

/-- A hit and an error hit free the entry or move its front; with exact queues no queue is touched. -/
theorem hit_eq (hq : QueuesExact s) (hr : s.request u = some r) (hfinished : r.unfinished = false) (a : Word) :
    hit u r w a s = { s with
      dataOut := some (r.data.getD (a.toNat - r.start.toNat) 0#16)
      windowStatus := { s.windowStatus with last := .ok }
      requests := s.requests.set u
        (if a.toNat - r.start.toNat + 1 = r.count then none
        else some { r with origin := .window { w with front := a.toNat - r.start.toNat + 1, held := false } }) } := by
  unfold hit
  dsimp only
  split
  · rw [freeRequest_finished (s := s.endRead _ _) hq hr hfinished]; rfl
  · rfl

theorem errorHit_eq (hq : QueuesExact s) (hr : s.request u = some r) (hfinished : r.unfinished = false)
    (status : Status) : errorHit u status s = { s with
      dataOut := some 0xFFFF#16, windowStatus := { s.windowStatus with last := .error status }
      requests := s.requests.set u none } := by
  unfold errorHit
  rw [freeRequest_finished (s := s.endRead _ _) hq hr hfinished]
  rfl

theorem beginReadHold_eq (a : Word) (s : State) : beginReadHold u r w a s = { s with
    access := some (.read u a s.settings.holdLimit.toNat)
    requests := s.requests.set u (some { r with origin := .window { w with held := true } }) } := rfl

theorem queuesExact_closeOpen (hq : QueuesExact s) : QueuesExact (closeOpen s) :=
  (effects_closeOpen (B := True) (W := True) (Q := True)).keeps (P := QueuesExact)
    (fun _ _ he hs => he.queuesExact hs) hq

/-- Settles O34: the match is the one the search finds, and its state says which way the read goes. -/
theorem apertureReadIsAnsweredByItsMatch : Obligations.ApertureReadIsAnsweredByItsMatch := by
  intro s o u r w hready hq hmatch
  have hm := windowMatch_earliest hmatch
  obtain ⟨hr, ho, -⟩ := hmatch.1
  have hq := queuesExact_closeOpen hq
  have hexec : exec (.apertureRead o) s = .next (apertureRead o s) := exec_onPort_ready (apertureRead o) hready rfl
  by_cases hun : r.unfinished = true
  case pos =>
    have hun := unfinished_iff.mp hun
    refine ⟨_, hexec.trans (congrArg _ (apertureRead_unfinished hm hr ho hun)), ?_, ?_, ?_, fun _ => ?_⟩
    · rw [beginReadHold_eq]; exact closed_closeOpen s
    · intro hdone; simp [Unfinished, hdone] at hun
    · intro status hdone; simp [Unfinished, hdone] at hun
    · rw [beginReadHold_eq]; rfl
  case neg =>
    have hfinished : r.unfinished = false := by simpa using hun
    obtain ⟨status, hstate⟩ : ∃ status, r.state = .done status ∨ r.state = .delivered status := by
      cases hs : r.state with
      | done status => exact ⟨status, .inl rfl⟩
      | delivered status => exact ⟨status, .inr rfl⟩
      | _ => simp [Request.unfinished, hs] at hfinished
    have hanswer := apertureRead_finished hm hr ho hstate
    have hhit := hit_eq (w := w) hq (hr : (closeOpen s).request u = some r) hfinished (reached s o)
    have herror := errorHit_eq hq (hr : (closeOpen s).request u = some r) hfinished status
    refine ⟨_, hexec.trans (congrArg _ hanswer), ?_, ?_, ?_, fun h => absurd (unfinished_iff.mpr h) hun⟩
    · unfold answer
      split
      · rw [hhit]; exact closed_closeOpen s
      · rw [herror]; exact closed_closeOpen s
    · intro hdone
      obtain rfl : status = .success := by rcases hstate with h | h <;> rw [hdone] at h <;> cases h; rfl
      rw [answer, if_pos rfl, hhit]
      rfl
    · intro status' hdone hne
      obtain rfl : status = status' := by rcases hstate with h | h <;> rw [hdone] at h <;> cases h; rfl
      rw [answer, if_neg hne, herror]
      rfl

/-! ### Misses -/

theorem apertureRead_miss (hm : s.windowMatch (reached s o) = none) : apertureRead o s = miss o (closeOpen s) := by
  have hm : (closeOpen s).windowMatch (apertureAddress (closeOpen s).settings o) = none := hm
  simp only [apertureRead, hm]

theorem needsReclaim_iff : s.needsReclaim = true ↔ 4 ≤ s.windowEntries ∨ ∀ u, s.request u ≠ none := by
  simp only [State.needsReclaim, Bool.or_eq_true, decide_eq_true_eq, Option.isNone_iff_eq_none, firstFree_eq_none]
  rfl

/-- The state after a read has been refused with a code (R146). -/
def readRefused (code : ResultCode) (s : State) : State :=
  { s with dataOut := some 0xFFFF#16, windowStatus := { s.windowStatus with last := .refused code } }

theorem miss_linkDown (h : s.link ≠ .up) : miss o s = readRefused .linkNotUp s := by rw [miss, if_pos h]; rfl

theorem miss_offline (hl : s.link = .up) (h : (s.station s.settings.windowStation).state ≠ .online) :
    miss o s = readRefused .stationNotOnline s := by
  rw [miss, if_neg (by simp [hl]), if_pos (by simpa [State.online] using h)]
  rfl

theorem miss_online (hl : s.link = .up) (h : (s.station s.settings.windowStation).state = .online) :
    miss o s = if s.needsReclaim then
      (s.reclaimTarget.map fun v => createWindow o (freeRequest v s).setDiscarded).getD (readRefused .tableFull s)
    else createWindow o s := by
  rw [miss, if_neg (by simp [hl]), if_neg (by simp [State.online, h])]
  cases s.reclaimTarget <;> rfl

/-- The state after a miss was served with a new window entry (R148). -/
theorem createWindow_eq (hu : firstFree s.requests = some u) : createWindow o s = { s with
    access := some (.read u (reached s o) s.settings.holdLimit.toNat)
    nextOrder := s.nextOrder + 1
    stations := s.stations.set s.settings.windowStation
      { s.station s.settings.windowStation with
        queue := (s.station s.settings.windowStation).queue ++ [.request u] }
    requests := s.requests.set u (some { windowRequest s.settings o with order := s.nextOrder }) } := by
  simp only [createWindow, hu]
  rfl

theorem postedEntry_createWindow (o : BitVec 4) (s : State) (p : PostedIndex) :
    (createWindow o s).postedEntry p = s.postedEntry p := by
  unfold createWindow
  split <;> rfl

theorem postedEntry_miss (o : BitVec 4) (s : State) (p : PostedIndex) : (miss o s).postedEntry p = s.postedEntry p := by
  by_cases hl : s.link = .up
  case neg => rw [miss_linkDown hl]; rfl
  by_cases hon : (s.station s.settings.windowStation).state = .online
  case neg => rw [miss_offline hl hon]; rfl
  rw [miss_online hl hon]
  split
  · cases s.reclaimTarget with
    | none => rfl
    | some v => exact (postedEntry_createWindow o _ p).trans (postedEntry_freeRequest v s p)
  · exact postedEntry_createWindow o s p

theorem reclaimable_finished {q : Request} (h : q.reclaimable = true) : q.unfinished = false :=
  (ofWindow_of_reclaimable h).2

/-- Settles O35: without a match the read is a miss, refused or served in the order of R146 to R148. -/
theorem apertureReadMissIsRefusedOrServed : Obligations.ApertureReadMissIsRefusedOrServed := by
  intro s o hready hq hnone
  have hq := queuesExact_closeOpen hq
  have hexec : exec (.apertureRead o) s = .next (miss o (closeOpen s)) :=
    (exec_onPort_ready (apertureRead o) hready rfl).trans (congrArg _ (apertureRead_miss (windowMatch_none hnone)))
  refine ⟨_, hexec, fun p => ?_, fun hl => ?_, fun hl hoff => ?_, fun hl hon hneed hfull => ?_,
    fun hl hon free discarded hneed hfree => ?_⟩
  · rw [postedEntry_miss]; exact closed_closeOpen s p
  · rw [miss_linkDown (s := closeOpen s) hl]; rfl
  · rw [miss_offline (s := closeOpen s) hl hoff]; rfl
  · have hno : (closeOpen s).reclaimTarget = none := requestsWhere_head_none hfull
    have hmiss : miss o (closeOpen s) = readRefused .tableFull (closeOpen s) := by
      rw [miss_online (s := closeOpen s) hl hon, if_pos (needsReclaim_iff (s := closeOpen s) |>.mpr hneed), hno]; rfl
    rw [hmiss]; rfl
  by_cases hr : (closeOpen s).needsReclaim = true
  case pos =>
    obtain ⟨rfl, v, q, hv, hq', hfirst, rfl⟩ := hneed (needsReclaim_iff.mp hr)
    have htarget : (closeOpen s).reclaimTarget = some v := requestsWhere_head hv hq' hfirst
    obtain ⟨u, hu⟩ : ∃ u, firstFree (s.requests.set v none) = some u := by
      refine Option.ne_none_iff_exists'.mp fun hn => firstFree_eq_none.mp hn v ?_
      simp
    have hfreed := freeRequest_finished hq (hv : (closeOpen s).request v = some q) (reclaimable_finished hq')
    have hmiss : miss o (closeOpen s) = createWindow o ((closeOpen s).putRequest v none).setDiscarded := by
      rw [miss_online (s := closeOpen s) hl hon, if_pos hr, htarget, ← hfreed]; rfl
    refine ⟨u, (firstFree_eq_some hu).1, (firstFree_eq_some hu).2, ?_⟩
    rw [hmiss, createWindow_eq (u := u) hu]
    dsimp only [State.setDiscarded, State.putRequest, closeOpen]
    rfl
  case neg =>
    obtain ⟨hquota, hsome⟩ := not_or.mp fun h => hr (needsReclaim_iff.mpr h)
    obtain ⟨u₀, hu₀⟩ : ∃ u, s.request u = none := by simpa using hsome
    obtain ⟨rfl, rfl⟩ := hfree (Nat.lt_of_not_le hquota) ⟨u₀, hu₀⟩
    obtain ⟨u, hu⟩ : ∃ u, firstFree s.requests = some u :=
      Option.ne_none_iff_exists'.mp fun hn => firstFree_eq_none.mp hn u₀ hu₀
    have hmiss : miss o (closeOpen s) = createWindow o (closeOpen s) := by
      rw [miss_online (s := closeOpen s) hl hon, if_neg hr]
    refine ⟨u, (firstFree_eq_some hu).1, (firstFree_eq_some hu).2, ?_⟩
    rw [hmiss, createWindow_eq (s := closeOpen s) (u := u) hu]
    rfl

end Sys2Proof.Proofs
end

section
/-! PROOFS. Aperture writes (R153 to R159): dropped, appended, opened or held for space. -/

namespace Sys2Proof.Proofs

open Sys2Proof.Machine Sys2Proof.Claims

variable {s : State} {o : BitVec 4} {v a : Word} {p : PostedIndex} {e : Posted}

/-! ### Drops (R159) -/

/-- The record of an aperture write that is dropped. -/
def droppedRecord (a : Word) (s : State) : FaultRecord :=
  { cause := .windowWriteDropped, target := .station s.settings.windowStation, address := a, wordsDone := 0 }

theorem dropWrite_eq (hd : s.dropped ≤ 255) : dropWrite a s = { s with
    faults := recorded s.faults [droppedRecord a s], dropped := dropsCounted s.faults [droppedRecord a s] s.dropped
    windowStatus := { s.windowStatus with droppedSeen := true } } := by
  show { s.appendFault (droppedRecord a s) with windowStatus := { s.windowStatus with droppedSeen := true } } = _
  rw [appendFault_eq hd]

/-! ### The OPEN entry (R100) -/

theorem openEntry_of_opened (hone : OneOpen s) (he : s.postedEntry p = some e) (hopen : e.state = .opened) :
    s.openEntry = some p := by
  have hisSome : s.openEntry.isSome = true := List.find?_isSome.mpr ⟨p, List.mem_finRange p, by simp [he, hopen]⟩
  obtain ⟨q, hq⟩ := Option.isSome_iff_exists.mp hisSome
  have hqopen : (s.postedEntry q).any (fun e => e.state = .opened) = true := by
    have := List.find?_some hq
    cases hrow : s.postedEntry q with
    | none => simp [hrow] at this
    | some f => simpa [hrow] using this
  rw [hq, hone p q (by simp [he, hopen]) hqopen]

theorem poolFree_pos : 1 ≤ s.poolFree ↔ s.poolUsed < 128 := by
  simp only [State.poolFree, Config.poolWords]
  omega

theorem extends_iff : s.extends e a = true ↔ a.toNat = e.start.toNat + e.count ∧ e.count < 16 ∧ s.poolUsed < 128 := by
  simp only [State.extends, Bool.and_eq_true, decide_eq_true_eq, poolFree_pos, and_assoc]
  rfl

/-! ### The cases of R153 -/

theorem apertureWrite_dropped (h : s.link ≠ .up ∨ (s.station s.settings.windowStation).state ≠ .online) :
    apertureWrite o v s = dropWrite (reached s o) s := by
  unfold apertureWrite
  exact if_pos (by simpa [State.online] using h)

theorem apertureWrite_taken (hl : s.link = .up) (hon : (s.station s.settings.windowStation).state = .online) :
    (∀ p e, s.openEntry = some p → s.postedEntry p = some e → s.extends e (reached s o) = true →
      apertureWrite o v s = appendTo p e v s) ∧
    ((∀ p e, s.openEntry = some p → s.postedEntry p = some e → s.extends e (reached s o) = false) →
      apertureWrite o v s = openOrHold (reached s o) v s) := by
  have hgo : ¬ (s.link ≠ .up ∨ (!s.online s.settings.windowStation) = true) := by simp [hl, State.online, hon]
  unfold apertureWrite
  dsimp only
  rw [if_neg hgo]
  refine ⟨fun p e hp he hext => ?_, fun hnot => ?_⟩
  · simp only [hp, he]
    exact if_pos hext
  · cases hp : s.openEntry with
    | none => rfl
    | some p =>
      cases he : s.postedEntry p with
      | none => simp only [he]; rfl
      | some e => 
        simp only [he]
        exact if_neg (by rw [show apertureAddress s.settings o = reached s o from rfl, hnot p e hp he]; nofun)

theorem openEntryFor_eq (hp : firstFree s.posted = some p) : openEntryFor a v s =
    markStale (.station s.settings.windowStation) (joined s p (windowPosted s.settings a v)) := by
  simp only [openEntryFor, hp, acceptPosted_eq_joined]

theorem postedSpace_iff : s.postedSpace = true ↔ Space s := by
  simp only [State.postedSpace, Bool.and_eq_true, decide_eq_true_eq, poolFree_pos, Space]
  refine and_congr_left' ⟨fun h => ?_, fun ⟨p, hp⟩ => ?_⟩
  · obtain ⟨p, hp⟩ := Option.isSome_iff_exists.mp h
    exact ⟨p, (firstFree_eq_some hp).1⟩
  · by_contra hnone
    exact firstFree_eq_none.mp (Option.not_isSome_iff_eq_none.mp hnone) p hp

/-- The entry opened for an aperture word when there is space, the OPEN entry closed and no access held any more. -/
theorem writeOpened_of_space (hs : Space s) :
    WriteOpened s a v (openEntryFor a v (closeOpen { s with access := none })) := by
  obtain ⟨⟨p₀, hp₀⟩, -⟩ := hs
  let s₀ : State := { s with access := none }
  obtain ⟨p, hp⟩ : ∃ p, firstFree (closeOpen s₀).posted = some p :=
    Option.ne_none_iff_exists'.mp fun hn => firstFree_eq_none.mp hn p₀ (postedEntry_closeOpen_eq_none.mpr hp₀)
  obtain ⟨hfree, hlower⟩ := firstFree_eq_some hp
  have hrow : ∀ q, (joined (closeOpen s₀) p (windowPosted s.settings a v)).postedEntry q =
      if p = q then some { windowPosted s.settings a v with order := s.nextOrder }
      else (closeOpen s₀).postedEntry q := fun q => postedEntry_joined (closeOpen s₀) p q _
  rw [openEntryFor_eq hp]
  refine ⟨p, { windowPosted s.settings a v with order := s.nextOrder },
    postedEntry_closeOpen_eq_none.mp hfree, fun q hq h => hlower q hq (postedEntry_closeOpen_eq_none.mpr h),
    (hrow p).trans (if_pos rfl), rfl, rfl, rfl, rfl, rfl, rfl, rfl, rfl, rfl, rfl, fun q hq => ?_, fun u => ?_, ?_⟩
  · show Closed _ ((joined (closeOpen s₀) p (windowPosted s.settings a v)).postedEntry q)
    rw [hrow, if_neg (Ne.symm hq)]
    exact closed_closeOpen s₀ q
  · rw [request_markStale]
    exact marked_staleRow (covers_station _) _
  · dsimp only [markStale, joined, closeOpen, windowPosted, stationsWith, broadcastsWith]
    rfl

theorem openOrHold_opens (hs : Space (closeOpen s)) : openOrHold a v s = openEntryFor a v (closeOpen s) :=
  if_pos (postedSpace_iff.mpr hs)

theorem space_closeOpen : Space (closeOpen s) ↔ Space s :=
  and_congr (exists_congr fun _ => postedEntry_closeOpen_eq_none) (by rw [poolUsed_closeOpen])

theorem openOrHold_holds (h : ¬Space s) : openOrHold a v s =
    { closeOpen s with access := some (.write a v s.settings.holdLimit.toNat) } :=
  if_neg (mt postedSpace_iff.mp (mt space_closeOpen.mp h))

/-- Settles O36: the cases of R153, the first that applies. -/
theorem apertureWriteTakesTheFirstCase : Obligations.ApertureWriteTakesTheFirstCase := by
  intro s o v hready hfaults hone
  refine ⟨_, exec_onPort_ready (apertureWrite o v) hready rfl, fun hdrop => ?_, fun hl hon => ⟨?_, fun hnone => ⟨?_, ?_⟩⟩⟩
  · exact ⟨droppedRecord (reached s o) s, rfl, rfl, rfl, rfl,
      (apertureWrite_dropped hdrop).trans (dropWrite_eq hfaults.2.1)⟩
  · intro p e he hopen haddress hcount hpool
    rw [(apertureWrite_taken hl hon).1 p e (openEntry_of_opened hone he hopen) he
      (extends_iff.mpr ⟨haddress, hcount, hpool⟩)]
    refine ⟨fun u => ?_, ?_⟩
    · rw [appendTo, request_markStale]
      exact marked_staleRow (covers_station _) _
    · have hrow : e.append v = { e with data := e.data ++ [v], state := if e.count = 15 then .queued else .opened } := by
        simp [Posted.append, Config.entryWords, hopen]
      rw [appendTo, hrow]
      rfl
  all_goals
    have hopens : apertureWrite o v s = openOrHold (reached s o) v s :=
      (apertureWrite_taken hl hon).2 fun p e hp he => by
        rw [Bool.eq_false_iff, Ne, extends_iff]
        have := hnone p e he (openEntry_some hp he)
        omega
    rw [hopens]
  · intro hfree hpool
    have hopened : WriteOpened s (reached s o) v (openEntryFor (reached s o) v (closeOpen { s with access := none })) :=
      writeOpened_of_space ⟨hfree, hpool⟩
    have haccess : ({ s with access := none } : State) = s := by rw [← hready.2.1]
    rw [openOrHold_opens (space_closeOpen.mpr ⟨hfree, hpool⟩)]
    rw [haccess] at hopened
    obtain ⟨p, e, hp, hlower, hrow, h1, h2, h3, h4, h5, h6, h7, h8, h9, h10, hrows, hmarked, hframe⟩ := hopened
    exact ⟨p, e, hp, hlower, hrow, h1, h2, h3, h4, h5, h6, h7, h8, h9, h10, hrows, hmarked,
      hframe.trans (by rw [← hready.2.1])⟩
  · intro hfull
    rw [openOrHold_holds fun ⟨⟨p, hp⟩, hpool⟩ => hfull.elim (fun h => h p hp) fun h => Nat.not_lt.mpr h hpool]
    exact ⟨closed_closeOpen s, rfl⟩

end Sys2Proof.Proofs
end

section
/-! PROOFS. Candidates and eligibility (R91 to R93, R112, R113). -/

namespace Sys2Proof.Proofs

open Sys2Proof.Machine Sys2Proof.Claims

variable {s : State} {i : StationId} {u : Tag} {r : Request} {p : PostedIndex} {e : Posted}

/-! ### The parts of a candidate -/

/-- A POLL of the station is due. -/
def PollIsDue (s : State) (i : StationId) : Prop :=
  (s.station i).attentionCapable = true ∧ (s.station i).pollDue = true

/-- A broadcast accepted before `order` is still in the broadcast queue (R113). -/
def BarredAt (s : State) (order : Nat) : Prop :=
  ∃ p e, p ∈ s.broadcastQueue ∧ s.postedEntry p = some e ∧ e.order < order

/-- A MODIFY in its write phase (R121). -/
def InWritePhase (r : Request) : Prop := ∃ m, r.kind = .modify m ∧ m.phase = .write

theorem barred_iff {order : Nat} : s.barred order = true ↔ BarredAt s order := by
  unfold State.barred BarredAt
  rw [List.any_eq_true]
  refine exists_congr fun p => ?_
  cases s.postedEntry p <;> simp

theorem headInWritePhase_request (hhead : (s.station i).queue.head? = some (.request u)) (hr : s.request u = some r) :
    s.headInWritePhase i = true ↔ InWritePhase r := by
  unfold State.headInWritePhase InWritePhase
  simp only [hhead, hr]
  cases r.kind <;> simp

theorem headInWritePhase_not_request (h : ∀ u, (s.station i).queue.head? ≠ some (.request u)) :
    s.headInWritePhase i = false := by
  unfold State.headInWritePhase
  split
  next u hu => exact absurd hu (h u)
  all_goals rfl

theorem pollCandidate_iff : s.pollCandidate i = true ↔ PollIsDue s i ∧ s.headInWritePhase i = false := by
  simp [State.pollCandidate, PollIsDue]

theorem candidate_probing (h : (s.station i).state = .probing) : s.candidate i = some .identify := by
  rw [State.candidate, h]

theorem candidate_down (h : (s.station i).state = .absent ∨ (s.station i).state = .lost) : s.candidate i = none := by
  rcases h with h | h <;> rw [State.candidate, h]

/-- An ONLINE station's candidate: an urgent one, the POLL, or the next segment of the head, in this order (R92). -/
theorem candidate_online (h : (s.station i).state = .online) : s.candidate i =
    (s.urgentCandidate i).or (if s.pollCandidate i then some .poll else s.segmentCandidate i) := by
  rw [State.candidate, h]
  cases s.urgentCandidate i <;> rfl

/-! ### A request entry at the head -/

section RequestHead

variable (hhead : (s.station i).queue.head? = some (.request u)) (hr : s.request u = some r)

include hhead hr

theorem urgentCandidate_parked {part : ParkPart} (hstate : r.state = .parked part) : s.urgentCandidate i =
    if r.abandonPending then some (.abandon u) else if part.collect = .expired then some (.collect u) else none := by
  simp only [State.urgentCandidate, hhead, hr, hstate]

theorem urgentCandidate_queued (hstate : r.state = .queued) : s.urgentCandidate i =
    if s.headInWritePhase i then some (.modifyWrite u) else none := by
  simp only [State.urgentCandidate, hhead, hr, hstate]

theorem urgentCandidate_waiting {n : Nat} (hstate : r.state = .waiting n) : s.urgentCandidate i = none := by
  simp only [State.urgentCandidate, hhead, hr, hstate]

theorem segmentCandidate_request : s.segmentCandidate i =
    if r.state = .queued ∧ !s.headInWritePhase i ∧ !s.barred r.order then some (.requestSegment u) else none := by
  simp only [State.segmentCandidate, hhead, hr]

theorem segmentCandidate_not_queued (hstate : r.state ≠ .queued) : s.segmentCandidate i = none := by
  rw [segmentCandidate_request hhead hr, if_neg fun h => hstate h.1]

/-- The candidate of an ONLINE station whose head has no urgent one and is no MODIFY in its write phase. -/
theorem candidate_plain (honline : (s.station i).state = .online) (hurgent : s.urgentCandidate i = none)
    (hplain : ¬ InWritePhase r) :
    (PollIsDue s i → s.candidate i = some .poll) ∧ (¬ PollIsDue s i → s.candidate i = s.segmentCandidate i) := by
  have hwrite : s.headInWritePhase i = false := by
    rw [Bool.eq_false_iff, Ne, headInWritePhase_request hhead hr]; exact hplain
  rw [candidate_online honline, hurgent, Option.none_or]
  exact ⟨fun h => if_pos (pollCandidate_iff.mpr ⟨h, hwrite⟩), fun h => if_neg fun hc => h (pollCandidate_iff.mp hc).1⟩

theorem candidate_abandon (honline : (s.station i).state = .online) {part : ParkPart} (hstate : r.state = .parked part)
    (habandon : r.abandonPending = true) : s.candidate i = some (.abandon u) := by
  rw [candidate_online honline, urgentCandidate_parked hhead hr hstate, if_pos habandon]; rfl

theorem candidate_collect (honline : (s.station i).state = .online) {part : ParkPart} (hstate : r.state = .parked part)
    (habandon : r.abandonPending = false) (hcollect : part.collect = .expired) : s.candidate i = some (.collect u) := by
  rw [candidate_online honline, urgentCandidate_parked hhead hr hstate, if_neg (by simp [habandon]), if_pos hcollect]; rfl

theorem candidate_modifyWrite (honline : (s.station i).state = .online) (hstate : r.state = .queued)
    (hwriting : InWritePhase r) : s.candidate i = some (.modifyWrite u) := by
  rw [candidate_online honline, urgentCandidate_queued hhead hr hstate,
    if_pos ((headInWritePhase_request hhead hr).mpr hwriting)]
  rfl

theorem urgentCandidate_queued_plain (hstate : r.state = .queued) (hplain : ¬ InWritePhase r) :
    s.urgentCandidate i = none := by
  rw [urgentCandidate_queued hhead hr hstate, if_neg fun h => hplain ((headInWritePhase_request hhead hr).mp h)]

theorem segmentCandidate_queued (hstate : r.state = .queued) (hplain : ¬ InWritePhase r) :
    (¬ BarredAt s r.order → s.segmentCandidate i = some (.requestSegment u)) ∧
      (BarredAt s r.order → s.segmentCandidate i = none) := by
  have hwrite : s.headInWritePhase i = false := by
    rw [Bool.eq_false_iff, Ne, headInWritePhase_request hhead hr]; exact hplain
  rw [segmentCandidate_request hhead hr, ← barred_iff]
  exact ⟨fun h => if_pos (by simp [hstate, hwrite, h]), fun h => if_neg (by simp [h])⟩

/-- While the write phase of its head waits, a station has no candidate (R93). -/
theorem candidate_waiting_write (honline : (s.station i).state = .online) {n : Nat} (hstate : r.state = .waiting n)
    (hwriting : InWritePhase r) : s.candidate i = none := by
  rw [candidate_online honline, urgentCandidate_waiting hhead hr hstate, Option.none_or, if_neg,
    segmentCandidate_not_queued hhead hr (by simp [hstate])]
  rw [pollCandidate_iff, (headInWritePhase_request hhead hr).mpr hwriting]
  simp

end RequestHead

/-! ### A posted entry at the head, and an empty queue -/

theorem urgentCandidate_posted (hhead : (s.station i).queue.head? = some (.posted p)) : s.urgentCandidate i = none := by
  simp only [State.urgentCandidate, hhead]

theorem candidate_no_request (honline : (s.station i).state = .online) (hurgent : s.urgentCandidate i = none)
    (h : ∀ u, (s.station i).queue.head? ≠ some (.request u)) :
    (PollIsDue s i → s.candidate i = some .poll) ∧ (¬ PollIsDue s i → s.candidate i = s.segmentCandidate i) := by
  have hwrite := headInWritePhase_not_request h
  rw [candidate_online honline, hurgent, Option.none_or]
  exact ⟨fun h => if_pos (pollCandidate_iff.mpr ⟨h, hwrite⟩), fun h => if_neg fun hc => h (pollCandidate_iff.mp hc).1⟩

theorem segmentCandidate_posted (hhead : (s.station i).queue.head? = some (.posted p)) (he : s.postedEntry p = some e) :
    s.segmentCandidate i =
      if (e.state = .queued ∨ e.state = .opened) ∧ !s.barred e.order then some (.postedSegment p) else none := by
  simp only [State.segmentCandidate, hhead, he]

/-! ### The broadcast queue (R112) -/

theorem holdsBack_iff {order : Nat} : r.holdsBack order = true ↔
    r.order < order ∧ ¬ (r.state ≠ .queued ∧ r.state ≠ .active ∧ ∀ n, r.state ≠ .waiting n) := by
  unfold Request.holdsBack
  cases r.state <;> simp

theorem broadcastAllowed_iff {order : Nat} : s.broadcastAllowed order = true ↔
    (∀ u r, s.request u = some r → r.order < order →
      r.state ≠ .queued ∧ r.state ≠ .active ∧ ∀ n, r.state ≠ .waiting n) ∧
    ∀ q f i, s.postedEntry q = some f → f.target = .station i → order ≤ f.order := by
  unfold State.broadcastAllowed
  rw [Bool.and_eq_true, List.all_eq_true, List.all_eq_true]
  refine and_congr (forall_congr' fun u => ?_) (forall_congr' fun q => ?_)
  · cases hr : s.request u with
    | none => simp
    | some r =>
      have hback : r.holdsBack order = false ↔ (r.order < order →
          r.state ≠ .queued ∧ r.state ≠ .active ∧ ∀ n, r.state ≠ .waiting n) := by
        rw [Bool.eq_false_iff, Ne, holdsBack_iff]
        tauto
      simp [hback]
  · cases hp : s.postedEntry q with
    | none => simp
    | some f =>
      cases ht : f.target with
      | station i => simp [ht, forall_comm (α := Posted)]
      | broadcast => simp [ht, forall_comm (α := Posted)]

theorem broadcastCandidate_some {rest : List PostedIndex} (hq : s.broadcastQueue = p :: rest)
    (he : s.postedEntry p = some e) (hallowed : s.broadcastAllowed e.order = true) : s.broadcastCandidate = some p := by
  simp only [State.broadcastCandidate, hq, he, if_pos hallowed]

theorem eligibleHigh_broadcast : s.eligibleHigh 15 = true ↔
    ∃ p rest e, s.broadcastQueue = p :: rest ∧ s.postedEntry p = some e ∧ s.broadcastAllowed e.order = true := by
  have hnone : stationAt 15 = none := rfl
  simp only [State.eligibleHigh, hnone, decide_true, Bool.true_and]
  constructor
  · intro h
    obtain ⟨p, hp⟩ := Option.isSome_iff_exists.mp h
    unfold State.broadcastCandidate at hp
    split at hp
    next => cases hp
    next q rest hq =>
      split at hp
      next e he =>
        split at hp
        next hallowed => exact ⟨q, rest, e, hq, he, hallowed⟩
        next => cases hp
      next => cases hp
  · rintro ⟨p, rest, e, hq, he, hallowed⟩
    rw [broadcastCandidate_some hq he hallowed]
    rfl

theorem eligible_iff : s.eligible i = true ↔ (s.station i).held = false ∧ s.candidate i ≠ none := by
  simp [State.eligible, Option.isSome_iff_ne_none]

/-- Settles O41: the candidate in the order of R92, by the state of the station and of its head. -/
theorem candidatesFollowTheOrderOfPreference : Obligations.CandidatesFollowTheOrderOfPreference := by
  refine ⟨fun s i => eligible_iff, fun s i => ⟨candidate_probing, candidate_down, fun honline => ⟨?_, ?_, ?_⟩⟩,
    fun s => eligibleHigh_broadcast.trans ?_⟩
  · rintro rest hq rfl
    have hurgent : s.urgentCandidate i = none := by simp only [State.urgentCandidate, hq, List.head?_nil]
    have hsegment : s.segmentCandidate i = none := by simp only [State.segmentCandidate, hq, List.head?_nil]
    obtain ⟨hdue, hnot⟩ := candidate_no_request honline hurgent (by simp [hq])
    split
    next h => exact hdue h
    next h => exact (hnot h).trans hsegment
  · intro u rest r hq hr
    have hhead : (s.station i).queue.head? = some (.request u) := by rw [hq]; rfl
    refine ⟨fun part => candidate_abandon hhead hr honline, fun part => candidate_collect hhead hr honline,
      candidate_modifyWrite hhead hr honline, fun part hstate hno hcollect hplain => ?_,
      fun n => candidate_waiting_write hhead hr honline, fun hstate hplain hdue => ?_,
      fun hstate hplain hdue hfree => ?_, fun hstate hplain hdue hbar => ?_, fun n hstate hplain hdue => ?_,
      fun n hstate hplain hdue => ?_⟩
    · have hurgent : s.urgentCandidate i = none := by
        rw [urgentCandidate_parked hhead hr hstate, if_neg (by simp [hno]), if_neg hcollect]
      obtain ⟨hpoll, hnot⟩ := candidate_plain hhead hr honline hurgent hplain
      exact ⟨hpoll, fun hd => (hnot hd).trans (segmentCandidate_not_queued hhead hr (by simp [hstate]))⟩
    · exact (candidate_plain hhead hr honline (urgentCandidate_queued_plain hhead hr hstate hplain) hplain).1 hdue
    · exact ((candidate_plain hhead hr honline (urgentCandidate_queued_plain hhead hr hstate hplain) hplain).2 hdue).trans
        ((segmentCandidate_queued hhead hr hstate hplain).1 hfree)
    · exact ((candidate_plain hhead hr honline (urgentCandidate_queued_plain hhead hr hstate hplain) hplain).2 hdue).trans
        ((segmentCandidate_queued hhead hr hstate hplain).2 hbar)
    · exact (candidate_plain hhead hr honline (urgentCandidate_waiting hhead hr hstate) hplain).1 hdue
    · exact ((candidate_plain hhead hr honline (urgentCandidate_waiting hhead hr hstate) hplain).2 hdue).trans
        (segmentCandidate_not_queued hhead hr (by simp [hstate]))
  · intro p rest e hq he
    have hhead : (s.station i).queue.head? = some (.posted p) := by rw [hq]; rfl
    obtain ⟨hpoll, hnot⟩ := candidate_no_request honline (urgentCandidate_posted hhead) (by simp [hhead])
    have hsegment := segmentCandidate_posted hhead he
    refine ⟨hpoll, fun hstate hdue hfree => ?_, fun hstate hdue hbar => ?_, fun n hstate hdue => ?_⟩
    · rw [hnot hdue, hsegment, if_pos ⟨hstate, by rwa [Bool.not_eq_true', Bool.eq_false_iff, Ne, barred_iff]⟩]
    · rw [hnot hdue, hsegment, if_neg]
      simp [barred_iff.mpr hbar]
    · rw [hnot hdue, hsegment, if_neg (by simp [hstate])]
  · simp only [broadcastAllowed_iff]

end Sys2Proof.Proofs
end

section
/-! PROOFS. Grants: the frames as words (R56 to R58), the search of a tier (R95), and the exchange a grant begins. -/

namespace Sys2Proof.Proofs

open Sys2Proof.Machine Sys2Proof.Claims

variable {s : State} {i : StationId} {u : Tag} {r : Request} {p : PostedIndex} {e : Posted}

/-! ### Frames -/

theorem toNat_append_add {m n : Nat} (a : BitVec m) (b : BitVec n) : (a ++ b).toNat = a.toNat * 2 ^ n + b.toNat := by
  rw [BitVec.toNat_append, ← Nat.shiftLeft_add_eq_or_of_lt b.isLt, Nat.shiftLeft_eq]

/-- The header word, field by field (R56 to R58). -/
theorem headerWord_eq {n : Nat} (hn : n < 16) (type : BitVec 4) (flags : FrameFlags) :
    headerWord n type flags = header n type.toNat flags.toggle flags.nopark flags.incr := by
  have htype := type.isLt
  have hbit : ∀ b : Bool, (BitVec.ofBool b).toNat = if b then 1 else 0 := fun b => by cases b <;> rfl
  apply BitVec.eq_of_toNat_eq
  unfold headerWord header
  simp only [toNat_append_add, hbit, field, BitVec.toNat_ofNat]
  split <;> split <;> split <;> simp <;> omega

theorem readFrame_eq {n : Nat} (hn : n < 16) (kind : ExchangeKind) (flags : FrameFlags) (address : Word) (count : Nat) :
    readFrame kind n flags address count = closed
      [header n kind.frameType.toNat flags.toggle flags.nopark flags.incr, address, BitVec.ofNat 16 count] := by
  rw [readFrame, headerWord_eq hn]; rfl

theorem writeFrame_eq {n : Nat} (hn : n < 16) (kind : ExchangeKind) (flags : FrameFlags) (address : Word)
    (data : List Word) : writeFrame kind n flags address data = closed
      ([header n kind.frameType.toNat flags.toggle flags.nopark flags.incr, address, BitVec.ofNat 16 data.length] ++
        data) := by
  rw [writeFrame, headerWord_eq hn]; rfl

theorem bareFrame_eq {n : Nat} (hn : n < 16) (kind : ExchangeKind) :
    bareFrame kind n = closed [header n kind.frameType.toNat false false false] := by
  rw [bareFrame, headerWord_eq hn]; rfl

theorem pollFrame_eq {n : Nat} (hn : n < 16) (last : Byte) :
    pollFrame n last = closed [header n 3 false false false, 0#8 ++ last] := by
  rw [pollFrame, headerWord_eq hn]; rfl

theorem beginExchange_closed (kind : ExchangeKind) (owner : Owner) (destination : Target) (words : List Word) (s : State) :
    beginExchange kind owner destination (closed words) s =
      { s with exchange := some (begun s kind owner destination words) } := by
  rw [beginExchange, begun, Nat.add_comm]
  rfl

theorem beginExchange_bare (kind : ExchangeKind) (owner : Owner) (destination : Target) (i : StationId) (s : State) :
    beginExchange kind owner destination (bareFrame kind (stationAddress i)) s =
      { s with
        exchange := some
          (begun s kind owner destination [header (stationAddress i) kind.frameType.toNat false false false]) } := by
  rw [bareFrame_eq (address_lt i), beginExchange_closed]

/-- Settles O44: the pass begins the IDENTIFY of its first station. -/
theorem passStartsTheNextIdentify : Obligations.PassStartsTheNextIdentify := by
  intro s
  refine ⟨fun h => congrArg _ (?_ : startIdentify s = s), fun i rest hl hx hhold hpass => ?_⟩
  · unfold startIdentify
    split
    next hgo =>
      obtain ⟨hl, hx, hhold⟩ := hgo
      have hfree : s.holdInput = false := by simpa using hhold
      have hpass : s.pass = [] := by simpa [hl, hx, hfree] using h
      rw [hpass]
    next => rfl
  · have hbegins : startIdentify s = beginExchange .identify (.station i) (.station i)
        (bareFrame .identify (stationAddress i)) (s.updateStation i fun st => { st with state := .probing }) := by
      unfold startIdentify
      rw [if_pos ⟨hl, hx, by simp [hhold]⟩, hpass]
    exact congrArg _ (hbegins.trans (beginExchange_bare .identify (.station i) (.station i) i _))

/-! ### The search of a tier (R95) -/

section Search

variable {eligible : Nat → Bool} {size position n : Nat}

theorem mem_searchOrder (hpos : position ≤ size) : n ∈ searchOrder size position ↔ 1 ≤ n ∧ n ≤ size := by
  refine ⟨mem_searchOrder_le, fun ⟨h1, h2⟩ => ?_⟩
  refine List.mem_map.mpr ⟨searchDistance size position n, List.mem_range.mpr (Nat.mod_lt _ (by omega)), ?_⟩
  rw [searchDistance, Nat.add_mod_mod, show position + (n + size - 1 - position) = (n - 1) + size from by omega,
    Nat.add_mod_right, Nat.mod_eq_of_lt (by omega)]
  omega

/-- The search visits the members in the order of their distance. -/
theorem searchOrder_pairwise (hpos : position ≤ size) :
    (searchOrder size position).Pairwise fun a b => searchDistance size position a < searchDistance size position b := by
  have hdist : ∀ k, k < size → searchDistance size position ((position + k) % size + 1) = k := fun k hk => by
    rw [searchDistance, show (position + k) % size + 1 + size - 1 - position = (position + k) % size + (size - position)
      from by omega, Nat.mod_add_mod, show position + k + (size - position) = k + size from by omega,
      Nat.add_mod_right, Nat.mod_eq_of_lt hk]
  rw [searchOrder, List.pairwise_map]
  refine List.pairwise_lt_range.imp_of_mem fun {a b} ha hb hab => ?_
  rw [hdist a (List.mem_range.mp ha), hdist b (List.mem_range.mp hb)]
  exact hab

theorem search_eq_none (hpos : position ≤ size) :
    (searchOrder size position).find? eligible = none ↔ NoneEligible eligible size := by
  rw [List.find?_eq_none]
  refine ⟨fun h m h1 h2 => by simpa using h m ((mem_searchOrder hpos).mpr ⟨h1, h2⟩), fun h m hm => ?_⟩
  obtain ⟨h1, h2⟩ := mem_searchOrder_le hm
  simp [h m h1 h2]

theorem search_eq_some (hpos : position ≤ size) (h : FirstAfter eligible size position n) :
    (searchOrder size position).find? eligible = some n := by
  obtain ⟨h1, h2, hn, hfirst⟩ := h
  cases hfind : (searchOrder size position).find? eligible with
  | none =>
    have := (search_eq_none hpos).mp hfind n h1 h2
    rw [hn] at this
    cases this
  | some m =>
    obtain ⟨hm, before, after, hsplit, hbefore⟩ := List.find?_eq_some_iff_append.mp hfind
    by_cases hne : m = n
    · rw [hne]
    · have hmem : m ∈ searchOrder size position := by rw [hsplit]; simp
      obtain ⟨hm1, hm2⟩ := mem_searchOrder_le hmem
      have hlater := hfirst m hm1 hm2 hne hm
      have hafter : n ∈ after := by
        have hin : n ∈ searchOrder size position := (mem_searchOrder hpos).mpr ⟨h1, h2⟩
        rw [hsplit, List.mem_append, List.mem_cons] at hin
        rcases hin with hin | hin | hin
        · have := hbefore n hin
          simp [hn] at this
        · exact absurd hin.symm hne
        · exact hin
      have hsorted := searchOrder_pairwise (size := size) hpos
      rw [hsplit] at hsorted
      have := List.rel_of_pairwise_cons (List.pairwise_append.mp hsorted).2.1 hafter
      omega

end Search

/-! ### GRANT (R90, R95, R96) -/

theorem schedule_not_allowed (h : s.exchange ≠ none ∨ s.link ≠ .up ∨ s.holdInput = true) : schedule s = s := by
  rw [schedule, if_neg]
  rw [mayGrant_iff]
  rintro ⟨hx, hl, hhold⟩
  simp [hx, hl, hhold] at h

theorem schedule_nobody (hs : SchedulerKept s) (hhigh : NoneEligible s.eligibleHigh 15)
    (hlow : NoneEligible s.eligibleLow 14) : schedule s = s := by
  have h1 : s.highChoice = none := (search_eq_none hs.1).mpr hhigh
  have h2 : s.lowChoice = none := (search_eq_none hs.2.1).mpr hlow
  rw [schedule, h1, h2]
  split <;> rfl

/-- A grant goes to the chosen member, with the scheduler's fields moved. -/
theorem schedule_chosen {n count : Nat} {low : Bool} (h : Chosen s n low count) :
    schedule s = startMember n (granted s n low count) := by
  obtain ⟨⟨hp, hlp, -⟩, hx, hl, hhold, hchoice⟩ := h
  rw [schedule, if_pos (mayGrant_iff.mpr ⟨hx, hl, hhold⟩)]
  cases low with
  | true =>
    obtain ⟨hfirst, hguard, rfl⟩ := hchoice
    have hlow : s.lowChoice = some n := search_eq_some hlp hfirst
    rw [hlow]
    cases hhigh : s.highChoice with
    | none => rfl
    | some m =>
      have hstarved : 8 ≤ s.starvation := hguard.resolve_left fun hnone => by
        rw [State.highChoice, (search_eq_none hp).mpr hnone] at hhigh
        cases hhigh
      exact if_neg (Nat.not_lt.mpr hstarved)
  | false =>
    obtain ⟨hfirst, hguard⟩ := hchoice
    have hhigh : s.highChoice = some n := search_eq_some hp hfirst
    rw [hhigh]
    rcases hguard with ⟨hnone, rfl⟩ | ⟨hsome, hstarved, rfl⟩
    · rw [State.lowChoice, (search_eq_none hlp).mpr hnone]; rfl
    · obtain ⟨l, hlow⟩ : ∃ l, s.lowChoice = some l := Option.ne_none_iff_exists'.mp fun hn => hsome ((search_eq_none hlp).mp hn)
      rw [hlow]
      exact if_pos hstarved

end Sys2Proof.Proofs
end

section
/-! PROOFS. What a grant begins: the candidate of the chosen station, or the BROADCAST (R90 to R94). -/

namespace Sys2Proof.Proofs

open Sys2Proof.Machine Sys2Proof.Claims

variable {s : State} {i : StationId} {u : Tag} {r : Request} {p : PostedIndex} {e : Posted} {c : Candidate}
  {low : Bool} {n count : Nat}

/-! ### The chosen member -/

theorem startMember_station (hc : s.candidate i = some c) : startMember (stationAddress i) s = startCandidate i c s := by
  simp only [startMember, stationAt_stationAddress, hc]

theorem startMember_broadcast (hp : s.broadcastCandidate = some p) : startMember 15 s = startBroadcast p s := by
  simp only [startMember, show stationAt 15 = none from rfl, hp]

theorem eligible_of_chosen (h : Chosen s (stationAddress i) low count) : s.eligible i = true := by
  obtain ⟨-, -, -, -, hchoice⟩ := h
  cases low with
  | true =>
    have hn : s.eligibleLow (stationAddress i) = true := hchoice.1.2.2.1
    simp only [State.eligibleLow, stationAt_stationAddress, Bool.and_eq_true] at hn
    exact hn.2
  | false =>
    have hn : s.eligibleHigh (stationAddress i) = true := hchoice.1.2.2.1
    simp only [State.eligibleHigh, stationAt_stationAddress, Bool.and_eq_true] at hn
    exact hn.2

theorem candidate_granted : (granted s n low count).candidate i = s.candidate i := by cases low <;> rfl

theorem broadcastCandidate_granted : (granted s n low count).broadcastCandidate = s.broadcastCandidate := by
  cases low <;> rfl

/-- A grant to a station begins the exchange of its candidate. -/
theorem schedule_station (h : Chosen s (stationAddress i) low count) (hc : s.candidate i = some c) :
    schedule s = startCandidate i c (granted s (stationAddress i) low count) :=
  (schedule_chosen h).trans (startMember_station (candidate_granted.trans hc))

/-! ### The exchange of a candidate -/

theorem station_of_head (hq : QueuesExact s) (hhead : (s.station i).queue.head? = some (.request u))
    (hr : s.request u = some r) (hun : r.unfinished = true) : r.station = i := by
  have := (home_of_head hq hhead).symm.trans (home_of_request hr hun)
  cases Option.some.inj this
  rfl

theorem startRequest_eq (hr : s.request u = some r) {words : List Word}
    (hframe : (r.nextFrame (s.station r.station)).2 = closed words) : startRequest u s =
      { s with
        requests := s.requests.set u (some { r with state := .active })
        exchange := some
          (begun s (r.nextFrame (s.station r.station)).1 (.request u) (.station r.station) words) } := by
  simp only [startRequest, hr]
  rw [hframe, beginExchange_closed]
  rfl

/-- The scheduler's fields are moved by the grant alone. -/
structure SamePositions (s t : State) : Prop where
  high : t.highPosition = s.highPosition
  low : t.lowPosition = s.lowPosition
  starvation : t.starvation = s.starvation

/-- An exchange with the station at an address, or with all stations at 15, has begun. -/
def BegunTo (n : Nat) (s t : State) : Prop :=
  ∃ x, t.exchange = some x ∧ x.destination.address = n ∧ SamePositions s t

theorem begunTo_station {kind : ExchangeKind} {owner : Owner} {frame : List Word} {t : State} (h : SamePositions s t) :
    BegunTo (stationAddress i) s (beginExchange kind owner (.station i) frame t) :=
  ⟨_, rfl, rfl, h.high, h.low, h.starvation⟩

theorem begunTo_startRequest (hq : QueuesExact s) (hhead : (s.station i).queue.head? = some (.request u))
    (hr : s.request u = some r) (hstate : r.state = .queued) : BegunTo (stationAddress i) s (startRequest u s) := by
  obtain rfl := station_of_head hq hhead hr (unfinished_of_queued hstate)
  simp only [startRequest, hr]
  exact begunTo_station ⟨rfl, rfl, rfl⟩

theorem begunTo_startCandidate (hq : QueuesExact s) (hc : Takeable s i c) :
    BegunTo (stationAddress i) s (startCandidate i c s) := by
  cases hc with
  | identify | poll | abandon => exact begunTo_station ⟨rfl, rfl, rfl⟩
  | collect hhead hr hstate =>
    refine begunTo_station ?_
    rw [updateRequest_of_some hr]
    exact ⟨rfl, rfl, rfl⟩
  | modifyWrite hhead hr hstate | requestSegment hhead hr hstate => exact begunTo_startRequest hq hhead hr hstate
  | postedSegment hhead he hstate =>
    simp only [startCandidate, startPosted, he]
    exact begunTo_station ⟨rfl, rfl, rfl⟩

theorem begunTo_startMember (hq : QueuesExact s) (h : s.eligibleHigh n = true ∨ s.eligibleLow n = true) :
    BegunTo n s (startMember n s) := by
  cases hat : stationAt n with
  | some i =>
    obtain rfl := stationAt_eq_some.mp hat
    have hel : s.eligible i = true := by
      simp only [State.eligibleHigh, State.eligibleLow, stationAt_stationAddress, Bool.and_eq_true] at h
      rcases h with h | h <;> exact h.2
    obtain ⟨c, hc⟩ := Option.ne_none_iff_exists'.mp (eligible_iff.mp hel).2
    rw [startMember_station hc]
    exact begunTo_startCandidate hq (takeable_of_candidate hc)
  | none =>
    obtain ⟨rfl, hsome⟩ : n = 15 ∧ s.broadcastCandidate.isSome = true := by
      simpa [State.eligibleHigh, State.eligibleLow, hat] using h
    obtain ⟨p, rest, e, hqueue, he, hallowed⟩ := eligibleHigh_broadcast.mp (by simpa [State.eligibleHigh, hat] using hsome)
    rw [startMember_broadcast (broadcastCandidate_some hqueue he hallowed)]
    simp only [startBroadcast, he]
    exact ⟨_, rfl, rfl, rfl, rfl, rfl⟩

theorem begunTo_granted (hq : QueuesExact s) (h : Chosen s n low count) :
    BegunTo n (granted s n low count) (schedule s) := by
  rw [schedule_chosen h]
  obtain ⟨-, -, -, -, hchoice⟩ := h
  cases low with
  | true => exact begunTo_startMember (s := granted s n true count) hq (.inr hchoice.1.2.2.1)
  | false => exact begunTo_startMember (s := granted s n false count) hq (.inl hchoice.1.2.2.1)

/-- Settles O40: the chosen member's exchange begins, with the position and the count of its tier moved. -/
theorem grantFollowsTiersAndPositions : Obligations.GrantFollowsTiersAndPositions := by
  intro s hs hq
  have hgrant {n count : Nat} {low : Bool} (h : Chosen s n low count) : ∃ t x, exec .grant s = .next t ∧
      t.exchange = some x ∧ x.destination.address = n ∧ SamePositions (granted s n low count) t :=
    have ⟨x, hx, haddress, hsame⟩ := begunTo_granted hq h
    ⟨_, x, rfl, hx, haddress, hsame⟩
  refine ⟨fun h => congrArg _ (schedule_not_allowed h), fun hhigh hlow => congrArg _ (schedule_nobody hs hhigh hlow),
    fun hx hl hhold => ⟨fun n hfirst => ⟨fun hsome hstarved => ?_, fun hnone => ?_⟩, fun n hfirst hguard => ?_⟩⟩
  · obtain ⟨t, x, hexec, ht, haddress, hsame⟩ :=
      hgrant (low := false) ⟨hs, hx, hl, hhold, hfirst, .inr ⟨hsome, hstarved, rfl⟩⟩
    exact ⟨t, x, hexec, ht, haddress, hsame.high, hsame.low, hsame.starvation⟩
  · obtain ⟨t, x, hexec, ht, haddress, hsame⟩ := hgrant (low := false) ⟨hs, hx, hl, hhold, hfirst, .inl ⟨hnone, rfl⟩⟩
    exact ⟨t, x, hexec, ht, haddress, hsame.high, hsame.low, hsame.starvation⟩
  · obtain ⟨t, x, hexec, ht, haddress, hsame⟩ := hgrant (low := true) ⟨hs, hx, hl, hhold, hfirst, hguard, rfl⟩
    exact ⟨t, x, hexec, ht, haddress, hsame.high, hsame.low, hsame.starvation⟩

end Sys2Proof.Proofs
end

section
/-! PROOFS. The frames a grant sends, word for word (R56 to R58, R78). -/

namespace Sys2Proof.Proofs

open Sys2Proof.Machine Sys2Proof.Claims

variable {s : State} {i : StationId} {u : Tag} {r : Request} {p : PostedIndex} {e : Posted} {low : Bool} {count : Nat}

/-! ### Request entries -/

/-- A grant to a queued head sends its next segment or phase. -/
theorem schedule_request (h : Chosen s (stationAddress i) low count) (hon : (s.station i).state = .online)
    (hhead : (s.station i).queue.head? = some (.request u)) (hr : s.request u = some r) (hstate : r.state = .queued)
    (hdue : (s.station i).pollDue = false ∨ InWritePhase r) :
    schedule s = startRequest u (granted s (stationAddress i) low count) := by
  by_cases hwriting : InWritePhase r
  · exact schedule_station h (candidate_modifyWrite hhead hr hon hstate hwriting)
  · have hnot : ¬ PollIsDue s i := fun hd => by
      exact Bool.false_ne_true ((hdue.resolve_right hwriting).symm.trans hd.2)
    have hcandidate := (candidate_plain hhead hr hon (urgentCandidate_queued_plain hhead hr hstate hwriting) hwriting).2 hnot
    have hsome : s.candidate i ≠ none := (eligible_iff.mp (eligible_of_chosen h)).2
    obtain ⟨hfree, hbarred⟩ := segmentCandidate_queued hhead hr hstate hwriting
    have hnotBarred : ¬ BarredAt s r.order := fun hb => hsome (hcandidate.trans (hbarred hb))
    exact schedule_station h (hcandidate.trans (hfree hnotBarred))

theorem advance_eq (mode : Mode) (start : Word) (done : Nat) : mode.advance start done = addressAt mode start done := by
  cases mode <;> rfl

theorem nextFrame_read (st : Station) (hk : r.kind = .read) : r.nextFrame st = (.readSegment, closed
    [header (stationAddress r.station) 0x1 st.toggle (!st.parkCapable) (r.mode = .increment),
      addressAt r.mode r.start r.wordsDone, BitVec.ofNat 16 (min st.maxBurst (r.count - r.wordsDone))]) := by
  simp only [Request.nextFrame, hk]
  rw [readFrame_eq (address_lt _), advance_eq]
  rfl

theorem nextFrame_confirmedWrite (st : Station) (hk : r.kind = .confirmedWrite) {data : List Word}
    (hdata : (r.data.drop r.wordsDone).take (min st.maxBurst (r.count - r.wordsDone)) = data) :
    r.nextFrame st = (.writeSegment, closed
      ([header (stationAddress r.station) 0x2 st.toggle (!st.parkCapable) (r.mode = .increment),
        addressAt r.mode r.start r.wordsDone, BitVec.ofNat 16 data.length] ++ data)) := by
  simp only [Request.nextFrame, hk]
  rw [writeFrame_eq (address_lt _), advance_eq, Request.segmentLength, hdata]
  rfl

theorem nextFrame_modifyRead (st : Station) {m : ModifyPart} (hk : r.kind = .modify m) (hm : m.phase = .read) :
    r.nextFrame st = (.modifyRead, closed
      [header (stationAddress r.station) 0x1 st.toggle true true, r.start, 1#16]) := by
  simp only [Request.nextFrame, hk, hm]
  rw [readFrame_eq (address_lt _)]
  rfl

theorem nextFrame_modifyWrite (st : Station) {m : ModifyPart} {old : Word} (hk : r.kind = .modify m)
    (hm : m.phase = .write) (hold : m.oldValue = some old) :
    r.nextFrame st = (.modifyWrite, closed
      [header (stationAddress r.station) 0x2 st.toggle true true, r.start, 1#16,
        (old &&& ~~~m.writeMask) ||| (m.newValue &&& m.writeMask)]) := by
  simp only [Request.nextFrame, hk, hm]
  rw [writeFrame_eq (address_lt _), ModifyPart.writeValue, hold]
  rfl

/-- Settles O42: the frame is the one its kind and phase say, and the owner becomes ACTIVE. -/
theorem grantFormsARequestSegment : Obligations.GrantFormsARequestSegment := by
  intro s i low count u rest r hchosen hon hqueue hr hstation hstate hdue
  subst hstation
  have hhead : (s.station r.station).queue.head? = some (.request u) := by rw [hqueue]; rfl
  have hr' : (granted s (stationAddress r.station) low count).request u = some r := by cases low <;> exact hr
  have hgo {kind : ExchangeKind} {words : List Word}
      (hframe : r.nextFrame (s.station r.station) = (kind, closed words)) :
      exec .grant s = .next
        { granted s (stationAddress r.station) low count with
          requests := s.requests.set u (some { r with state := .active })
          exchange := some (begun s kind (.request u) (.station r.station) words) } := by
    have hframe' : r.nextFrame ((granted s (stationAddress r.station) low count).station r.station) =
        (kind, closed words) := by cases low <;> exact hframe
    refine congrArg _ ((schedule_request hchosen hon hhead hr hstate hdue).trans ?_)
    rw [startRequest_eq hr' (congrArg Prod.snd hframe'), hframe']
    cases low <;> rfl
  exact ⟨fun hk => hgo (nextFrame_read _ hk), fun hk => hgo (nextFrame_confirmedWrite _ hk rfl),
    fun m hk => ⟨fun hm => hgo (nextFrame_modifyRead _ hk hm), fun old hm hold => hgo (nextFrame_modifyWrite _ hk hm hold)⟩⟩

/-! ### Other work -/

theorem startPosted_eq (he : s.postedEntry p = some e) {data : List Word}
    (hdata : (e.data.drop e.wordsDone).take (min (s.station i).maxBurst (e.data.length - e.wordsDone)) = data) :
    startPosted i p s = { s with
      posted := s.posted.set p (some { e with state := .active })
      exchange := some
        (begun s .writeSegment (.posted p) (.station i)
          ([header (stationAddress i) 0x2 (s.station i).toggle true (e.mode = .increment),
            addressAt e.mode e.start e.wordsDone, BitVec.ofNat 16 data.length] ++ data)) } := by
  have hdata : (e.data.drop e.wordsDone).take (min (s.station i).maxBurst (e.count - e.wordsDone)) = data := hdata
  simp only [startPosted, he, hdata]
  rw [writeFrame_eq (address_lt i), beginExchange_closed, Posted.nextAddress, advance_eq]
  rfl

theorem startBroadcast_eq (he : s.postedEntry p = some e) : startBroadcast p s = { s with
    posted := s.posted.set p (some { e with state := .active })
    exchange := some
      (begun s .broadcast (.posted p) .broadcast
        ([header 15 0x7 false false (e.mode = .increment), e.start, BitVec.ofNat 16 e.data.length] ++ e.data)) } := by
  simp only [startBroadcast, he]
  rw [writeFrame_eq (by decide), beginExchange_closed]
  rfl

theorem startCandidate_poll : startCandidate i .poll s = { s with
    stations := s.stations.set i { s.station i with pollDue := false, pollTimer := none }
    exchange := some
      (begun s .poll (.station i) (.station i)
        [header (stationAddress i) 0x3 false false false, 0#8 ++ (s.station i).lastSequence]) } := by
  unfold startCandidate
  dsimp only
  rw [pollFrame_eq (address_lt i), beginExchange_closed]
  rfl

theorem startCandidate_collect {part : ParkPart} (hr : s.request u = some r) (hstate : r.state = .parked part) :
    startCandidate i (.collect u) s = { s with
      requests := s.requests.set u (some { r with state := .parked { part with collect := .stopped } })
      exchange := some
        (begun s .collect (.request u) (.station i) [header (stationAddress i) 0x4 false false false]) } := by
  unfold startCandidate
  dsimp only
  rw [beginExchange_bare, updateRequest_of_some hr, hstate]
  rfl

theorem broadcastCandidate_of_chosen {rest : List PostedIndex} (h : Chosen s 15 false count)
    (hqueue : s.broadcastQueue = p :: rest) : s.broadcastCandidate = some p := by
  obtain ⟨-, -, -, -, hfirst, -⟩ := h
  obtain ⟨q, tail, f, hq, hf, hallowed⟩ := eligibleHigh_broadcast.mp hfirst.2.2.1
  rw [hqueue] at hq
  cases hq
  exact broadcastCandidate_some hqueue hf hallowed

/-- Settles O43: each candidate's frame word for word, with the effects of R94. -/
theorem grantFormsOtherFrames : Obligations.GrantFormsOtherFrames := by
  refine ⟨fun s i low count hchosen => ⟨fun hprobing => ?_, fun hon hcandidate => ?_,
    fun u rest r part hon hqueue hr hstate => ⟨fun habandon => ?_, fun habandon hcollect => ?_⟩,
    fun p rest e hon hqueue he hcandidate => ?_⟩, fun s count p rest e hchosen hqueue he => ?_⟩
  · refine congrArg _ ((schedule_station hchosen (candidate_probing hprobing)).trans ?_)
    rw [startCandidate, beginExchange_bare]
    cases low <;> rfl
  · refine congrArg _ ((schedule_station hchosen hcandidate).trans ?_)
    rw [startCandidate_poll]
    cases low <;> rfl
  · have hhead : (s.station i).queue.head? = some (.request u) := by rw [hqueue]; rfl
    refine congrArg _ ((schedule_station hchosen (candidate_abandon hhead hr hon hstate habandon)).trans ?_)
    rw [startCandidate, beginExchange_bare]
    cases low <;> rfl
  · have hhead : (s.station i).queue.head? = some (.request u) := by rw [hqueue]; rfl
    refine congrArg _ ((schedule_station hchosen (candidate_collect hhead hr hon hstate habandon hcollect)).trans ?_)
    rw [startCandidate_collect (s := granted s _ low count) (by cases low <;> exact hr) hstate]
    cases low <;> rfl
  · refine congrArg _ ((schedule_station hchosen hcandidate).trans ?_)
    rw [startCandidate, startPosted_eq (s := granted s _ low count) (by cases low <;> exact he) rfl]
    cases low <;> rfl
  · have hgo := startMember_broadcast (s := granted s 15 false count) (broadcastCandidate_granted.trans (broadcastCandidate_of_chosen hchosen hqueue))
    refine congrArg _ ((schedule_chosen hchosen).trans (hgo.trans ?_))
    rw [startBroadcast_eq (s := granted s 15 false count) he]
    rfl

end Sys2Proof.Proofs
end

section
/-! PROOFS. Receptions: the five tests of R72, and what the CRC detects (R55). -/

namespace Sys2Proof.Proofs

open Sys2Proof.Machine Sys2Proof.Claims

/-! ### The CRC (R55) -/

/-- A bit moves the register one to one: its lowest bit afterwards is the bit that was compared. -/
theorem crcBit_injective (b : Bool) : Function.Injective fun c => crcBit c b := by
  intro c d h
  have hlow : ∀ x : Word, (crcBit x b).getLsbD 0 = (x.msb ^^ b) := fun x => by
    unfold crcBit
    split <;> simp_all
  have h : crcBit c b = crcBit d b := h
  have hmsb : c.msb = d.msb := by
    have := (hlow c).symm.trans ((congrArg (·.getLsbD 0) h).trans (hlow d))
    simpa using this
  have hshift : c <<< 1 = d <<< 1 := by
    unfold crcBit at h
    rw [hmsb] at h
    split at h
    · exact (BitVec.xor_left_inj _).mp h
    · exact h
  refine BitVec.eq_of_getLsbD_eq fun j hj => ?_
  by_cases hj15 : j = 15
  · subst hj15
    simpa [BitVec.msb_eq_getLsbD_last] using hmsb
  · have := congrArg (fun x : Word => x.getLsbD (j + 1)) hshift
    rw [BitVec.getLsbD_eq_getElem hj, BitVec.getLsbD_eq_getElem hj]
    simpa [show j + 1 < 16 from by omega] using this

theorem foldl_injective {α β : Type} {f : β → α → β} (h : ∀ a, Function.Injective fun b => f b a) (l : List α) :
    Function.Injective fun b => l.foldl f b := by
  induction l with
  | nil => exact fun _ _ h => h
  | cons a l ih => exact ih.comp (h a)

/-- Comparing the register with a bit of a word is comparing the register with the word mixed in. -/
theorem crcBit_xor (c w : Word) {k : Nat} (hk : k < 16) :
    crcBit (c ^^^ w <<< k) false = crcBit c (w.getLsbD (15 - k)) ^^^ w <<< (k + 1) := by
  have hmsb : (w <<< k).msb = w.getLsbD (15 - k) := by
    rw [BitVec.msb_eq_getLsbD_last, BitVec.getLsbD_shiftLeft]
    simp [show ¬ 15 < k from by omega]
  unfold crcBit
  rw [BitVec.msb_xor, hmsb, BitVec.shiftLeft_xor_distrib, BitVec.shiftLeft_add, Bool.xor_false]
  split
  · rw [BitVec.xor_assoc, BitVec.xor_assoc, BitVec.xor_comm (w <<< k <<< 1)]
  · rfl

theorem crcWord_eq_mixed (c w : Word) : crcWord c w = crcWord (c ^^^ w) 0#16 := by
  have hrun : ∀ n ≤ 16, (List.range n).foldl (fun c k => crcBit c ((0#16).getLsbD (15 - k))) (c ^^^ w) =
      (List.range n).foldl (fun c k => crcBit c (w.getLsbD (15 - k))) c ^^^ w <<< n := fun n => by
    induction n with
    | zero => intro; simp
    | succ n ih =>
      intro hn
      rw [List.range_succ, List.foldl_append, List.foldl_append, ih (by omega)]
      simpa using crcBit_xor _ w (show n < 16 from by omega)
  have := hrun 16 (le_refl _)
  rw [show w <<< 16 = 0#16 from by simp, BitVec.xor_zero] at this
  exact this.symm

theorem crcWord_injective (w : Word) : Function.Injective fun c => crcWord c w :=
  foldl_injective (fun k => crcBit_injective (w.getLsbD (15 - k))) _

theorem crcWord_injective_word (c : Word) : Function.Injective fun w => crcWord c w := by
  intro v w h
  have h : crcWord c v = crcWord c w := h
  rw [crcWord_eq_mixed c v, crcWord_eq_mixed c w] at h
  exact (BitVec.xor_right_inj c).mp (crcWord_injective 0#16 h)

/-- Two lists of words that differ in one word have different CRCs. -/
theorem crc_differs {before after : List Word} {v w : Word} (h : crc (before ++ v :: after) = crc (before ++ w :: after)) :
    v = w := by
  unfold crc at h
  rw [List.foldl_append, List.foldl_append, List.foldl_cons, List.foldl_cons] at h
  exact crcWord_injective_word _ (foldl_injective crcWord_injective after h)

theorem checkedBody_iff {words body : List Word} : checkedBody words = some body ↔ words = closed body := by
  constructor
  · intro h
    unfold checkedBody at h
    split at h
    next => cases h
    next last hlast =>
      split at h
      next hcrc =>
        cases h
        rw [closed, hcrc]
        exact (List.dropLast_append_getLast? last hlast).symm
      next => cases h
  · rintro rfl
    exact checkedBody_sealed body

/-- A frame with one word changed does not have a good CRC. -/
theorem closed_set_ne {words body : List Word} {k : Nat} {w : Word} (hk : k < (closed words).length)
    (hw : (closed words)[k]? ≠ some w) : (closed words).set k w ≠ closed body := by
  unfold closed at *
  intro h
  rw [List.length_append, List.length_singleton] at hk
  by_cases hlast : k = words.length
  · subst hlast
    rw [List.set_append_right _ _ (le_refl _), Nat.sub_self, List.set_cons_zero] at h
    obtain ⟨rfl, hcrc⟩ := List.append_inj' h rfl
    simp at hw hcrc
    exact hw hcrc.symm
  · have hlt : k < words.length := by omega
    rw [List.set_append_left _ _ hlt] at h
    obtain ⟨hbody, hcrc⟩ := List.append_inj' h rfl
    rw [List.getElem?_append_left hlt, List.getElem?_eq_getElem hlt] at hw
    have hset : words.set k w = words.take k ++ w :: words.drop (k + 1) := by
      rw [List.set_eq_take_append_cons_drop, if_pos hlt]
    have hkeep : words = words.take k ++ words[k] :: words.drop (k + 1) := by
      rw [← List.drop_eq_getElem_cons hlt, List.take_append_drop]
    refine hw (congrArg some (crc_differs (before := words.take k) (after := words.drop (k + 1)) ?_))
    rw [← hkeep, ← hset, hbody]
    exact List.singleton_inj.mp hcrc

/-- Settles O49: a good CRC would make the changed frame a closed one. -/
theorem oneCorruptedWordIsNeverAccepted : Obligations.OneCorruptedWordIsNeverAccepted := by
  intro words k w rc kind parkable parkedWrite source e hk hw hrc
  have hbad : checkedBody rc.words = none := by
    rw [Option.eq_none_iff_forall_ne_some]
    intro body hbody
    exact closed_set_ne hk hw (hrc.symm.trans (checkedBody_iff.mp hbody))
  unfold judge
  rw [hbad]
  split <;> rfl

end Sys2Proof.Proofs
end

section
/-! PROOFS. The judgement of a reception (R72): its contents test by test. -/

namespace Sys2Proof.Proofs

open Sys2Proof.Machine Sys2Proof.Claims

variable {e : Expected} {head : Word} {body : List Word} {reply : Reply}

/-! ### The items of an ATTN (R56) -/

/-- The two words of an item. -/
def itemWords (a : AttnEntry) : List Word := [a.sequence ++ a.code, a.info]

theorem attnEntries_flatMap (items : List AttnEntry) : attnEntries (items.flatMap itemWords) = items := by
  induction items with
  | nil => rfl
  | cons a items ih =>
    have hhigh : (a.sequence ++ a.code).extractLsb' 8 8 = a.sequence := BitVec.extractLsb'_append_eq_left
    have hlow : (a.sequence ++ a.code).extractLsb' 0 8 = a.code := BitVec.extractLsb'_append_eq_right
    show attnEntries ((a.sequence ++ a.code) :: a.info :: items.flatMap itemWords) = a :: items
    rw [attnEntries, ih, hhigh, hlow]

theorem length_itemWords (items : List AttnEntry) : (items.flatMap itemWords).length = 2 * items.length := by
  induction items with
  | nil => rfl
  | cons a items ih => simp only [List.flatMap_cons, List.length_append, ih, itemWords, List.length_cons, List.length_nil]; omega

theorem flatMap_attnEntries : ∀ (n : Nat) (words : List Word), words.length = 2 * n →
    (attnEntries words).flatMap itemWords = words := by
  intro n
  induction n with
  | zero =>
    intro words h
    rw [List.eq_nil_of_length_eq_zero h]
    rfl
  | succ n ih =>
    intro words h
    match words, h with
    | a :: b :: rest, h =>
      have hjoin : a.extractLsb' 8 8 ++ a.extractLsb' 0 8 = a := by
        rw [BitVec.extractLsb'_append_extractLsb'_eq_extractLsb' (by rfl)]
        exact BitVec.extractLsb'_eq_self
      rw [attnEntries, List.flatMap_cons, ih rest (by simp at h; omega), itemWords, hjoin]
      rfl

theorem nakReason_iff (w : Word) : (nakReason w = some .busy ↔ w = 1#16) ∧ (nakReason w = some .reject ↔ w = 2#16) ∧
    (nakReason w = some .fault ↔ w = 3#16) := by
  unfold nakReason
  by_cases h1 : w = 1#16
  · simp [h1]
  · by_cases h2 : w = 2#16
    · simp [h2]
    · by_cases h3 : w = 3#16 <;> simp [h1, h2, h3]

theorem identityFields_iff {w2 w3 w4 : Word} {f : Identity} : identityFields w2 w3 w4 = some f ↔
    f.stationClass = w2 ∧ f.revision = high w3 ∧ f.maxBurst = w3.toNat % 32 ∧ 1 ≤ f.maxBurst ∧ f.maxBurst ≤ 16 ∧
      f.parkCapable = w3.getLsbD 6 ∧ f.attentionCapable = w3.getLsbD 7 ∧ f.attentionBase = low w4 := by
  have hburst : (w3.extractLsb' 0 5).toNat = w3.toNat % 32 := by simp [BitVec.extractLsb'_toNat]
  unfold identityFields
  dsimp only
  rw [hburst]
  constructor
  · intro h
    split at h
    next hrange => cases h; exact ⟨rfl, rfl, rfl, hrange.1, hrange.2, rfl, rfl, rfl⟩
    next => cases h
  · obtain ⟨cls, revision, burst, park, attention, base⟩ := f
    rintro ⟨rfl, rfl, rfl, hlow, hhigh, rfl, rfl, rfl⟩
    exact if_pos ⟨hlow, hhigh⟩

/-! ### The contents of a reply -/

theorem attnContents_iff {items : List AttnEntry} {more : Bool} {echo count : Word} {words : List Word} :
    replyContents .attn e head (echo :: count :: words) = some (.attn items more) ↔
      low echo = e.acceptedThrough ∧ count.toNat = items.length ∧ 1 ≤ items.length ∧ items.length ≤ 4 ∧
        words = items.flatMap itemWords ∧ more = head.getLsbD 0 := by
  simp only [replyContents, low]
  constructor
  · intro h
    split at h
    next hall =>
      obtain ⟨hecho, hlow, hhigh, hlength⟩ := hall
      cases h
      have hwords := flatMap_attnEntries count.toNat words hlength
      have hitems : count.toNat = (attnEntries words).length := by
        have := length_itemWords (attnEntries words)
        rw [hwords] at this
        omega
      exact ⟨hecho, hitems, by omega, by omega, hwords.symm, rfl⟩
    next => cases h
  · rintro ⟨hecho, hcount, hlow, hhigh, rfl, rfl⟩
    rw [if_pos ⟨hecho, by omega, by omega, by rw [length_itemWords]; omega⟩, attnEntries_flatMap]

/-- The fifth test of R72: the words of a reply of a type carry exactly the contents read from them. -/
theorem replyContents_iff : replyContents (replyKind reply) e head body = some reply ↔ Carries e head body reply := by
  cases reply with
  | data words =>
    rcases body with _ | ⟨a, _ | ⟨c, ws⟩⟩
    case cons.cons =>
      simp only [replyContents, replyKind, Carries]
      constructor
      · intro h
        split at h
        next hall =>
          obtain ⟨haddress, hcount, hlength, hlow, hhigh⟩ := hall
          cases h
          exact ⟨c, by rw [haddress], hcount, by omega, by omega, by omega⟩
        next => cases h
      · rintro ⟨count, hbody, hcount, hlength, hlow, hhigh⟩
        cases hbody
        rw [if_pos ⟨rfl, hcount, by omega, by omega, by omega⟩]
    all_goals simp [replyContents, replyKind, Carries]
  | ack | parked | quiet => cases body <;> simp [replyContents, replyKind, Carries]
  | nak reason =>
    rcases body with _ | ⟨a, _ | ⟨b, ws⟩⟩
    case cons.nil => cases reason <;> simp [replyContents, replyKind, Carries, nakReason_iff a]
    all_goals cases reason <;> simp [replyContents, replyKind, Carries]
  | attn items more =>
    rcases body with _ | ⟨echo, _ | ⟨count, words⟩⟩
    case cons.cons =>
      refine attnContents_iff.trans ⟨fun ⟨hecho, hcount, hlow, hhigh, hwords, hmore⟩ =>
        ⟨echo, count, words, rfl, hecho, hcount, hlow, hhigh, hwords, hmore⟩, ?_⟩
      rintro ⟨echo', count', words', hbody, hecho, hcount, hlow, hhigh, hwords, hmore⟩
      cases hbody
      exact ⟨hecho, hcount, hlow, hhigh, hwords, hmore⟩
    all_goals simp [replyContents, replyKind, Carries]
  | identity f =>
    rcases body with _ | ⟨a, _ | ⟨b, _ | ⟨c, _ | ⟨d, ws⟩⟩⟩⟩
    case cons.cons.cons.nil =>
      have hmap : replyContents .identity e head [a, b, c] = some (.identity f) ↔ identityFields a b c = some f := by
        simp [replyContents]
      refine hmap.trans (identityFields_iff.trans ⟨fun h => ⟨a, b, c, rfl, h⟩, ?_⟩)
      rintro ⟨w2, w3, w4, hbody, h⟩
      cases hbody
      exact h
    all_goals simp [replyContents, replyKind, Carries]

/-! ### The judgement -/

theorem typeCode_of_replyType (code : BitVec 4) (reply : Reply) :
    replyType code = some (replyKind reply) ↔ code.toNat = typeCode reply := by
  have hall : ∀ code : BitVec 4, (replyType code = some .data ↔ code.toNat = 8) ∧
      (replyType code = some .ack ↔ code.toNat = 9) ∧ (replyType code = some .nak ↔ code.toNat = 10) ∧
      (replyType code = some .parked ↔ code.toNat = 11) ∧ (replyType code = some .attn ↔ code.toNat = 12) ∧
      (replyType code = some .quiet ↔ code.toNat = 13) ∧ (replyType code = some .identity ↔ code.toNat = 14) := by
    decide
  obtain ⟨hdata, hack, hnak, hparked, hattn, hquiet, hidentity⟩ := hall code
  cases reply <;> assumption

theorem acceptsReply_iff (kind : ExchangeKind) (parkable parkedWrite : Bool) (reply : Reply) :
    acceptsReply kind parkable parkedWrite (replyKind reply) = true ↔
      typeCode reply ∈ acceptable kind parkable parkedWrite := by
  cases kind <;> cases parkable <;> cases parkedWrite <;> cases reply <;>
    simp [acceptsReply, replyKind, typeCode, acceptable]

theorem headerFields {source : Nat} (hsource : source < 16) :
    (head.extractLsb' 12 4 = 0#4 ∧ head.extractLsb' 8 4 = field 4 source ↔
      head.toNat / 4096 = 0 ∧ head.toNat / 256 % 16 = source) ∧
    (head.extractLsb' 4 4).toNat = head.toNat / 16 % 16 := by
  have hlt := head.isLt
  simp only [← BitVec.toNat_inj, BitVec.extractLsb'_toNat, Nat.shiftRight_eq_div_pow, field, BitVec.toNat_ofNat,
    Nat.reducePow, Nat.zero_mod, Nat.mod_eq_of_lt hsource, Nat.mod_eq_of_lt (show head.toNat / 4096 < 16 by omega), and_self]

theorem wellFramed_iff {rc : Reception} : wellFramed rc = true ↔
    rc.delimiterGood = true ∧ rc.codingGood = true ∧ rc.extraBits = 0 ∧ 2 ≤ rc.words.length ∧ rc.words.length ≤ 20 := by
  simp [wellFramed, and_assoc]

/-- The judgement, test by test (R72). -/
theorem judge_iff {kind : ExchangeKind} {parkable parkedWrite : Bool} {source : Nat} {rc : Reception} :
    judge kind parkable parkedWrite source e rc = some reply ↔
      wellFramed rc = true ∧ ∃ head body, rc.words = closed (head :: body) ∧
        (head.extractLsb' 12 4 = 0#4 ∧ head.extractLsb' 8 4 = field 4 source) ∧
        replyType (head.extractLsb' 4 4) = some (replyKind reply) ∧
        acceptsReply kind parkable parkedWrite (replyKind reply) = true ∧
        replyContents (replyKind reply) e head body = some reply := by
  constructor
  · intro h
    unfold judge at h
    split at h
    next hframed =>
      split at h
      next head body hbody =>
        split at h
        next hfields =>
          split at h
          next type htype =>
            split at h
            next haccepts =>
              obtain rfl := replyKind_of_contents h
              exact ⟨hframed, head, body, checkedBody_iff.mp hbody, hfields, htype, haccepts, h⟩
            next => cases h
          next => cases h
        next => cases h
      next => cases h
    next => cases h
  · rintro ⟨hframed, head, body, hwords, hfields, htype, haccepts, hcontents⟩
    simp only [judge, if_pos hframed, checkedBody_iff.mpr hwords, if_pos hfields, htype, if_pos haccepts, hcontents]

/-- Settles O48: the five tests of the judgement are those of R72. -/
theorem replyIsValidExactlyByTheFiveTests : Obligations.ReplyIsValidExactlyByTheFiveTests := by
  intro kind parkable parkedWrite source e rc reply hsource _
  rw [judge_iff, wellFramed_iff]
  simp only [(headerFields hsource).1, typeCode_of_replyType, (headerFields hsource).2, acceptsReply_iff, replyContents_iff,
    and_assoc]

end Sys2Proof.Proofs
end

section
/-! PROOFS. The outcomes of an exchange neither read nor change the link state, the held access and the accesses that wait
behind it: each commutes with a change of these three. -/

namespace Sys2Proof.Proofs

open Sys2Proof.Machine Sys2Proof.Claims

variable {s : State}

/-! ### The fields an outcome is blind to -/

/-- The link state, the held access and the accesses that wait behind it. -/
structure Outside where
  link : LinkState
  access : Option HeldAccess
  waiting : List HostAccess

/-- The state with these three put to given values. -/
def masked (k : Outside) (s : State) : State := { s with link := k.link, access := k.access, portWaiting := k.waiting }

/-- An operation that neither reads nor changes the three. -/
def Blind (f : State → State) : Prop := ∀ k s, f (masked k s) = masked k (f s)

@[simp] theorem request_masked (k : Outside) (s : State) (u : Tag) : (masked k s).request u = s.request u := rfl

@[simp] theorem postedEntry_masked (k : Outside) (s : State) (p : PostedIndex) :
    (masked k s).postedEntry p = s.postedEntry p := rfl

@[simp] theorem station_masked (k : Outside) (s : State) (i : StationId) : (masked k s).station i = s.station i := rfl

theorem Blind.comp {f g : State → State} (hg : Blind g) (hf : Blind f) : Blind fun s => g (f s) := fun k s =>
  (congrArg g (hf k s)).trans (hg k (f s))

theorem blind_id : Blind fun s => s := fun _ _ => rfl

theorem blind_foldl {α : Type} {f : State → α → State} (h : ∀ x, Blind fun s => f s x) (l : List α) :
    Blind fun s => l.foldl f s := by
  induction l with
  | nil => exact blind_id
  | cons x l ih => exact ih.comp (h x)

/-- An operation that is blind leaves the three alone. -/
theorem Blind.keeps {f : State → State} (h : Blind f) (s : State) :
    (f s).link = s.link ∧ (f s).access = s.access ∧ (f s).portWaiting = s.portWaiting := by
  have hself : f s = masked ⟨s.link, s.access, s.portWaiting⟩ (f s) := h ⟨s.link, s.access, s.portWaiting⟩ s
  exact ⟨(congrArg State.link hself :), (congrArg State.access hself :), (congrArg State.portWaiting hself :)⟩

/-! ### Rows and records -/

theorem blind_putRequest (u : Tag) (row : Option Request) : Blind fun s => s.putRequest u row := fun _ _ => rfl

theorem blind_putPosted (p : PostedIndex) (row : Option Posted) : Blind fun s => s.putPosted p row := fun _ _ => rfl

theorem blind_updateRequest (u : Tag) (f : Request → Request) : Blind fun s => s.updateRequest u f := by
  intro k s
  simp only [State.updateRequest, request_masked]
  cases s.request u <;> rfl

theorem blind_updatePosted (p : PostedIndex) (f : Posted → Posted) : Blind fun s => s.updatePosted p f := by
  intro k s
  simp only [State.updatePosted, postedEntry_masked]
  cases s.postedEntry p <;> rfl

theorem blind_updateStation (i : StationId) (f : Station → Station) : Blind fun s => s.updateStation i f := fun _ _ => rfl

theorem blind_appendFault (f : FaultRecord) : Blind fun s => s.appendFault f := by
  intro k s
  simp only [State.appendFault]
  by_cases h : s.faults.length < Config.faultRecords
  · rw [if_pos h, if_pos (show (masked k s).faults.length < _ from h)]; rfl
  · rw [if_neg h, if_neg (show ¬ (masked k s).faults.length < _ from h)]; rfl

theorem blind_completeRequest (u : Tag) (status : Status) : Blind (completeRequest u status) := by
  intro k s
  cases hr : s.request u with
  | none =>
    have hfinished : ∀ t : State, t.request u = s.request u → completeRequest u status t = t := fun t ht =>
      completeRequest_finished status fun r h => by rw [ht, hr] at h; cases h
    rw [hfinished s rfl, hfinished (masked k s) rfl]
  | some r =>
    cases hu : r.unfinished with
    | true => rw [completeRequest_eq_completed status hr hu, completeRequest_eq_completed (s := masked k s) status hr hu]; rfl
    | false =>
      have hfinished : ∀ t : State, t.request u = s.request u → completeRequest u status t = t := fun t ht =>
        completeRequest_finished status fun q h => by rw [ht, hr] at h; cases h; exact hu
      rw [hfinished s rfl, hfinished (masked k s) rfl]

theorem blind_freeRequest (u : Tag) : Blind (freeRequest u) := by
  intro k s
  simp only [freeRequest, request_masked]
  cases s.request u <;> rfl

theorem blind_freePosted (p : PostedIndex) (cause : Option FaultCause) : Blind (freePosted p cause) := by
  intro k s
  simp only [freePosted, postedEntry_masked]
  cases s.postedEntry p with
  | none => rfl
  | some e =>
    have hqueue : ((masked k s).dequeuePosted e.target p).putPosted p none =
        masked k ((s.dequeuePosted e.target p).putPosted p none) := by cases e.target <;> rfl
    cases cause with
    | none => exact hqueue
    | some c =>
      dsimp only
      rw [hqueue]
      exact blind_appendFault _ k _

/-! ### Request entries -/

theorem blind_refuseRequest (u : Tag) (status : Status) : Blind (refuseRequest u status) :=
  (blind_completeRequest u status).comp (blind_updateRequest u _)

theorem blind_segmentDone (u : Tag) (length : Nat) (words : List Word) : Blind (segmentDone u length words) := by
  intro k s
  simp only [segmentDone, request_masked]
  cases s.request u with
  | none => rfl
  | some r =>
    dsimp only
    split
    · exact ((blind_completeRequest u _).comp (blind_putRequest u _)) k s
    · split
      · exact ((blind_completeRequest u _).comp (blind_putRequest u _)) k s
      · rfl

theorem blind_requestBusy (u : Tag) : Blind (requestBusy u) := by
  intro k s
  simp only [requestBusy, request_masked]
  cases s.request u with
  | none => rfl
  | some r =>
    dsimp only
    show (if s.settings.busyLimitReached _ = true then _ else _) =
      masked k (if s.settings.busyLimitReached _ = true then _ else _)
    by_cases h : s.settings.busyLimitReached (min Config.maxBusy (r.busyCount + 1)) = true
    · rw [if_pos h, if_pos h]
      exact ((blind_refuseRequest u _).comp (blind_putRequest u _)) k s
    · rw [if_neg h, if_neg h]
      split
      · exact ((blind_completeRequest u _).comp (blind_putRequest u _)) k s
      · rfl

theorem blind_requestNak (u : Tag) (reason : NakReason) : Blind (requestNak u reason) := by
  cases reason with
  | busy => exact blind_requestBusy u
  | reject => exact blind_refuseRequest u _
  | fault => exact blind_refuseRequest u _

theorem blind_enterParked (u : Tag) (segment : Segment) : Blind (enterParked u segment) := fun k s =>
  blind_updateRequest u _ k s

theorem blind_collectAgain (u : Tag) : Blind (collectAgain u) := fun k s => blind_updateRequest u _ k s

theorem blind_abandonAcked (u : Tag) : Blind (abandonAcked u) := by
  intro k s
  simp only [abandonAcked, request_masked]
  cases s.request u with
  | none => rfl
  | some r => exact blind_completeRequest u _ k s

theorem blind_modifyReadData (u : Tag) (old : Word) : Blind (modifyReadData u old) := by
  intro k s
  simp only [modifyReadData, request_masked]
  cases s.request u with
  | none => rfl
  | some r =>
    cases hk : r.kind with
    | read | confirmedWrite => simp only [hk]
    | modify m =>
      simp only [hk]
      split
      · split
        · exact ((blind_completeRequest u _).comp (blind_putRequest u _)) k s
        · rfl
      · exact ((blind_completeRequest u _).comp (blind_putRequest u _)) k s

theorem blind_modifyWriteAck (u : Tag) : Blind (modifyWriteAck u) :=
  (blind_completeRequest u _).comp (blind_updateRequest u _)

theorem blind_collectReply (u : Tag) (reply : Reply) : Blind (collectReply u reply) := by
  intro k s
  have hsegment : (masked k s).parkedSegment u = s.parkedSegment u := rfl
  cases reply with
  | data words =>
    simp only [collectReply, hsegment]
    cases s.parkedSegment u with
    | none => rfl
    | some g => exact blind_segmentDone u _ _ k s
  | ack =>
    simp only [collectReply, hsegment]
    cases s.parkedSegment u with
    | none => rfl
    | some g => exact blind_segmentDone u _ _ k s
  | parked => exact blind_collectAgain u k s
  | nak reason =>
    cases reason with
    | busy => exact blind_collectAgain u k s
    | reject | fault => exact blind_completeRequest u _ k s
  | attn | quiet | identity => rfl

theorem blind_segmentReply (x : Exchange) (u : Tag) (write : Bool) (reply : Reply) :
    Blind (segmentReply x u write reply) := by
  cases reply with
  | data | ack => exact blind_segmentDone u _ _
  | nak reason => exact blind_requestNak u reason
  | parked => exact blind_enterParked u _
  | attn | quiet | identity => exact blind_id

theorem blind_requestReply (x : Exchange) (u : Tag) (reply : Reply) : Blind (requestReply x u reply) := by
  unfold requestReply
  cases x.kind with
  | readSegment | writeSegment => exact blind_segmentReply x u _ reply
  | modifyRead =>
    cases reply with
    | data => exact blind_modifyReadData u _
    | nak reason => exact blind_requestNak u reason
    | _ => exact blind_id
  | modifyWrite =>
    cases reply with
    | ack => exact blind_modifyWriteAck u
    | nak reason => exact blind_requestNak u reason
    | _ => exact blind_id
  | collect => exact blind_collectReply u reply
  | abandon => exact blind_abandonAcked u
  | poll | identify | broadcast => exact blind_id

theorem blind_ownerReply (x : Exchange) (u : Tag) (reply : Reply) : Blind (ownerReply x u reply) := by
  intro k s
  simp only [ownerReply, request_masked]
  cases s.request u with
  | none => rfl
  | some r =>
    dsimp only
    split
    · split
      · exact blind_freeRequest u k s
      · exact blind_requestReply x u reply k s
    · rfl

/-! ### Posted entries and station records -/

theorem blind_postedBusy (p : PostedIndex) : Blind (postedBusy p) := by
  intro k s
  simp only [postedBusy, postedEntry_masked]
  cases s.postedEntry p with
  | none => rfl
  | some e =>
    show (if s.settings.busyLimitReached _ = true then _ else _) =
      masked k (if s.settings.busyLimitReached _ = true then _ else _)
    by_cases h : s.settings.busyLimitReached (min Config.maxBusy (e.busyCount + 1)) = true
    · rw [if_pos h, if_pos h]
      exact blind_freePosted p _ k s
    · rw [if_neg h, if_neg h]
      split
      · exact blind_freePosted p _ k s
      · rfl

theorem blind_postedAck (p : PostedIndex) (length : Nat) : Blind (postedAck p length) := by
  intro k s
  simp only [postedAck, postedEntry_masked]
  cases s.postedEntry p with
  | none => rfl
  | some e =>
    dsimp only
    split
    · exact ((blind_freePosted p _).comp (blind_putPosted p _)) k s
    · split
      · exact ((blind_freePosted p _).comp (blind_putPosted p _)) k s
      · rfl

theorem blind_postedReply (p : PostedIndex) (length : Nat) (reply : Reply) : Blind (postedReply p length reply) := by
  cases reply with
  | ack => exact blind_postedAck p length
  | nak reason =>
    cases reason with
    | busy => exact blind_postedBusy p
    | reject => exact blind_freePosted p (some .rejected)
    | fault => exact blind_freePosted p (some .stationFault)
  | data | parked | attn | quiet | identity => exact blind_id

theorem blind_stationReply (i : StationId) (reply : Reply) : Blind (stationReply i reply) := by
  cases reply with
  | identity f => exact fun _ _ => rfl
  | attn items more => exact fun _ _ => rfl
  | quiet => exact fun _ _ => rfl
  | data | ack | nak | parked => exact blind_id

theorem blind_flipToggle (x : Exchange) : Blind (flipToggle x) := by
  unfold flipToggle
  cases x.destination with
  | station i =>
    dsimp only
    split
    · exact blind_updateStation i _
    · exact blind_id
  | broadcast => exact blind_id

/-! ### The three outcomes (R80) -/

theorem blind_applyReply (x : Exchange) (reply : Reply) : Blind (applyReply x reply) := by
  unfold applyReply
  dsimp only
  cases x.owner with
  | request u => exact (blind_ownerReply x u reply).comp (blind_flipToggle x)
  | posted p => exact (blind_postedReply p x.count reply).comp (blind_flipToggle x)
  | station i => exact (blind_stationReply i reply).comp (blind_flipToggle x)

theorem blind_loseOwner (owner : Owner) : Blind (loseOwner owner) := by
  cases owner with
  | request u =>
    intro k s
    simp only [loseOwner, request_masked]
    cases s.request u with
    | none => rfl
    | some r =>
      dsimp only
      split
      · exact blind_freeRequest u k s
      · exact ((blind_completeRequest u _).comp (blind_updateRequest u _)) k s
  | posted p => exact blind_freePosted p (some .noResponse)
  | station i => exact blind_id

theorem blind_loseMember (x : EntryRef) : Blind fun s => loseMember s x := by
  cases x with
  | request u => exact blind_completeRequest u .stationLost
  | posted p => exact blind_freePosted p (some .stationLost)

theorem blind_lostTransition (i : StationId) (owner : Owner) : Blind (lostTransition i owner) := by
  intro k s
  unfold lostTransition
  dsimp only
  have hmembers := blind_foldl blind_loseMember ((loseOwner owner s).station i).queue k (loseOwner owner s)
  rw [blind_loseOwner owner k s, station_masked]
  dsimp only at hmembers
  rw [hmembers]
  rfl

theorem blind_applyFailed (x : Exchange) : Blind (applyFailed x) := by
  unfold applyFailed
  cases x.destination with
  | station i => exact blind_lostTransition i x.owner
  | broadcast => exact blind_id

theorem blind_applySent (x : Exchange) : Blind (applySent x) := by
  unfold applySent
  cases x.owner with
  | posted p => exact (blind_freePosted p none).comp (blind_updatePosted p _)
  | request u => exact blind_id
  | station i => exact blind_id

end Sys2Proof.Proofs
end

section
/-! PROOFS. A valid reply while the link is UP and no access is held: segments of a request, parked work (R18, R19, R87,
R128 to R136). -/

namespace Sys2Proof.Proofs

open Sys2Proof.Machine Sys2Proof.Claims

variable {s a : State} {x : Exchange} {rc : Reception} {reply : Reply} {u : Tag} {r : Request} {i : StationId}

/-! ### The end of an exchange in quiet -/

/-- While the link is UP and no access is held, the end of an exchange is its outcome. -/
theorem endExchange_of_quiet {f : State → State} (hf : Blind f) (hquiet : Quiet s) : endExchange x f s = f (idle s) := by
  obtain ⟨hlink, haccess, -⟩ := hf.keeps (idle s)
  exact endExchange_quiet (hlink.trans hquiet.1) (haccess.trans hquiet.2)

theorem exec_receptionEnd_quiet (hquiet : Quiet s) (hreceives : Receives s x rc reply) :
    exec (.receptionEnd rc) s = .next (applyReply x reply (idle s)) := by
  obtain ⟨hx, ⟨rate, hphase⟩, hvalid⟩ := hreceives
  exact congrArg _ ((receptionEnd_valid hx hphase hvalid).trans (endExchange_of_quiet (blind_applyReply x reply) hquiet))

/-- A toggled frame's reply finds the toggle of its station flipped (R81). -/
theorem flipToggle_idle (hd : x.destination = .station i) :
    flipToggle x (idle s) = if x.kind.toggled then answered s i else idle s := by
  simp only [flipToggle, hd]
  rfl

theorem applyReply_request (howner : x.owner = .request u) (hd : x.destination = .station i) :
    applyReply x reply (idle s) = ownerReply x u reply (if x.kind.toggled then answered s i else idle s) := by
  simp only [applyReply, howner]
  rw [flipToggle_idle hd]

theorem stale_eq_false (h : ∀ w, r.origin = .window w → w.stale = false) : r.stale = false := by
  unfold Request.stale
  cases ho : r.origin with
  | port => rfl
  | window w => exact h w ho

theorem ownerReply_fresh (hr : a.request u = some r) (hun : r.unfinished = true) (hfresh : r.stale = false) :
    ownerReply x u reply a = requestReply x u reply a := by
  simp [ownerReply, hr, hun, hfresh]

/-- A reply to a segment or phase of an ACTIVE entry that is not stale. -/
theorem reply_to_active (hquiet : Quiet s) (hreceives : Receives s x rc reply) (hcarries : CarriesRequest s x u r)
    (htoggled : x.kind.toggled = true) :
    exec (.receptionEnd rc) s = .next (requestReply x u reply (answered s r.station)) := by
  obtain ⟨howner, hd, hr, hstate, hfresh⟩ := hcarries
  have hun : r.unfinished = true := by simp [Request.unfinished, hstate]
  rw [exec_receptionEnd_quiet hquiet hreceives, applyReply_request howner hd, if_pos htoggled,
    ownerReply_fresh (a := answered s r.station) hr hun (stale_eq_false hfresh)]

/-- A reply to a COLLECT or ABANDON of a PARKED entry that is not stale. -/
theorem reply_to_parked {part : ParkPart} (hquiet : Quiet s) (hreceives : Receives s x rc reply)
    (hcarries : CarriesParked s x u r part) (htoggled : x.kind.toggled = false) :
    exec (.receptionEnd rc) s = .next (requestReply x u reply (idle s)) := by
  obtain ⟨howner, hd, hr, hstate, hfresh⟩ := hcarries
  have hun : r.unfinished = true := by simp [Request.unfinished, hstate]
  rw [exec_receptionEnd_quiet hquiet hreceives, applyReply_request howner hd, if_neg (by simp [htoggled]),
    ownerReply_fresh (a := idle s) hr hun (stale_eq_false hfresh)]

/-! ### Segments (R18, R19, R87) -/

/-- The end of a segment, in the terms of the claims. -/
theorem afterSegment_segmentDone (hr : a.request u = some r) (hun : r.unfinished = true) (length : Nat)
    (words : List Word) : AfterSegment a u r length words (.next (segmentDone u length words a)) := by
  have hrow : segmentDone u length words a =
      if r.wordsDone + length = r.count then
        completeRequest u .success (a.putRequest u (some (segmentTaken r length words)))
      else if r.cancelPending then
        completeRequest u .cancelled (a.putRequest u (some (segmentTaken r length words)))
      else a.putRequest u
        (some { segmentTaken r length words with state := .queued, abandonPending := false }) := by
    simp only [segmentDone, hr, segmentTaken]
    cases r.kind <;> rfl
  have hcomplete := fun status => completeRequest_putRequest (s := a) (u := u) (r := segmentTaken r length words) status hun
  refine ⟨fun hdone => ?_, fun hdone hcancel => ?_, fun hdone hcancel => ?_⟩
  · rw [hrow, if_pos hdone, hcomplete]
  · rw [hrow, if_neg hdone, if_pos hcancel, hcomplete]
  · rw [hrow, if_neg hdone, if_neg (by simp [hcancel])]
    rfl

theorem busyLimitReached_iff {g : Settings} {count : Nat} : g.busyLimitReached count = true ↔ LimitReached g count := by
  simp [Settings.busyLimitReached, LimitReached]

/-- A NAK, in the terms of the claims. -/
theorem afterNak_requestNak {failing : Request → Request} (hr : a.request u = some r) (hun : r.unfinished = true)
    (hfailing : ∀ q, q.kind = r.kind → q.mapModify ModifyPart.refused = failing q)
    (hfailed : ∀ q : Request, q.unfinished = true → (failing q).unfinished = true) (reason : NakReason) :
    AfterNak a u r failing reason (.next (requestNak u reason a)) := by
  have hrefuse {q : Request} (hq : q.kind = r.kind) (hqun : q.unfinished = true) (status : Status) :
      refuseRequest u status (a.putRequest u (some q)) = completed a u (failing q) status := by
    have hput : (a.putRequest u (some q)).updateRequest u (Request.mapModify ModifyPart.refused) =
        a.putRequest u (some (failing q)) := by
      rw [updateRequest_of_some ((request_putRequest a u u _).trans (if_pos rfl)), hfailing q hq]
      simp [State.putRequest]
    rw [refuseRequest, hput, completeRequest_putRequest status (hfailed q hqun)]
  have hself : a.putRequest u (some r) = a := hr ▸ putRequest_same a u
  refine ⟨?_, ?_, ?_⟩
  · rintro rfl
    have := hrefuse rfl hun .rejected
    rw [hself] at this
    exact congrArg _ this
  · rintro rfl
    have := hrefuse rfl hun .stationFault
    rw [hself] at this
    exact congrArg _ this
  · rintro rfl
    have hbusy : requestNak u .busy a =
        if a.settings.busyLimitReached (busier r.busyCount) then
          refuseRequest u .busyLimit (a.putRequest u (some { r with busyCount := busier r.busyCount }))
        else if r.cancelPending then
          completeRequest u .cancelled (a.putRequest u (some { r with busyCount := busier r.busyCount }))
        else (a.putRequest u (some { r with busyCount := busier r.busyCount })).putRequest u
          (some { r with busyCount := busier r.busyCount, state := .waiting a.settings.backoffTicks }) := by
      simp only [requestNak, requestBusy, hr]
      rfl
    refine ⟨fun hlimit => ?_, fun hlimit hcancel => ?_, fun hlimit hcancel => ?_⟩
    · rw [hbusy, if_pos (busyLimitReached_iff.mpr hlimit), hrefuse (q := { r with busyCount := busier r.busyCount }) rfl hun]
    · rw [hbusy, if_neg (mt busyLimitReached_iff.mp hlimit), if_pos hcancel,
        completeRequest_putRequest (r := { r with busyCount := busier r.busyCount }) _ hun]
    · rw [hbusy, if_neg (mt busyLimitReached_iff.mp hlimit), if_neg (by simp [hcancel])]
      simp [State.putRequest, Settings.backoffTicks]

/-- Settles O50: the segment's end and the NAK act on the answered state. -/
theorem segmentReplyAdvancesOrEndsTheRequest : Obligations.SegmentReplyAdvancesOrEndsTheRequest := by
  intro s x rc u r reply hquiet hreceives hcarries hkind
  have htoggled : x.kind.toggled = true := by rcases hkind with ⟨hk, -⟩ | ⟨hk, -⟩ <;> rw [hk] <;> rfl
  obtain ⟨write, hreply⟩ : ∃ write, requestReply x u reply (answered s r.station) =
      segmentReply x u write reply (answered s r.station) := by
    rcases hkind with ⟨hk, -⟩ | ⟨hk, -⟩
    · exact ⟨false, by simp only [requestReply, hk]⟩
    · exact ⟨true, by simp only [requestReply, hk]⟩
  have hplain : ∀ m, r.kind ≠ .modify m := by rcases hkind with ⟨-, hk⟩ | ⟨-, hk⟩ <;> rw [hk] <;> nofun
  have hun : r.unfinished = true := by simp [Request.unfinished, hcarries.2.2.2.1]
  have hr : (answered s r.station).request u = some r := hcarries.2.2.1
  have hid : ∀ q : Request, q.kind = r.kind → q.mapModify ModifyPart.refused = id q := fun q hq => by
    unfold Request.mapModify
    cases hk : q.kind with
    | modify m => exact absurd (hq.symm.trans hk) (hplain m)
    | _ => rfl
  rw [reply_to_active hquiet hreceives hcarries htoggled, hreply]
  refine ⟨?_, ?_, ?_⟩
  · rintro words rfl
    exact afterSegment_segmentDone hr hun _ _
  · rintro rfl
    exact afterSegment_segmentDone hr hun _ _
  · rintro reason rfl
    exact afterNak_requestNak hr hun hid (fun _ h => h) reason

/-! ### Parked work (R128 to R136) -/

theorem parkedSegment_parked {part : ParkPart} (hr : a.request u = some r) (hstate : r.state = .parked part) :
    a.parkedSegment u = some part.segment := by
  simp only [State.parkedSegment, hr, hstate]

/-- A PARKED reply parks the entry with the segment sent. -/
theorem enterParked_eq (hr : a.request u = some r) (segment : Segment) : enterParked u segment a = { a with
    requests := a.requests.set u
      (some { r with
        abandonPending := r.abandonPending || r.cancelPending
        state := .parked
          { segment := segment
            park := some (1000 * a.settings.parkLimit.toNat)
            collect :=
              if r.abandonPending || r.cancelPending then .stopped
              else .running (100 * a.settings.collectInterval.toNat) } }) } := by
  rw [enterParked, updateRequest_of_some hr]
  rfl

theorem collectAgain_eq {part : ParkPart} (hr : a.request u = some r) (hstate : r.state = .parked part) :
    collectAgain u a = { a with
      requests := a.requests.set u
        (some (if r.abandonPending then r
        else { r with state := .parked { part with
          collect := .running (100 * a.settings.collectInterval.toNat) } })) } := by
  rw [collectAgain, updateRequest_of_some hr]
  simp only [hstate]
  rfl

/-- Settles O51: PARKED parks; a COLLECT's reply and an ABANDON's ACK act on the parked entry, without a flip. -/
theorem parkedWorkIsCollectedOrAbandoned : Obligations.ParkedWorkIsCollectedOrAbandoned := by
  refine ⟨fun s x rc u r hquiet hreceives hcarries hkind => ?_,
    fun s x rc u r part reply hquiet hreceives hcarries => ⟨fun hk => ?_, fun hk hack => ?_⟩⟩
  · have htoggled : x.kind.toggled = true := by rcases hkind with hk | hk <;> rw [hk] <;> rfl
    have hreply : requestReply x u .parked (answered s r.station) =
        enterParked u { write := x.kind = .writeSegment, address := x.address, length := x.count } (answered s r.station) := by
      rcases hkind with hk | hk <;> simp only [requestReply, hk, segmentReply] <;> rfl
    rw [reply_to_active hquiet hreceives hcarries htoggled, hreply, enterParked_eq (a := answered s r.station) hcarries.2.2.1]
    rfl
  · have hr : (idle s).request u = some r := hcarries.2.2.1
    have hstate := hcarries.2.2.2.1
    have hun : r.unfinished = true := by simp [Request.unfinished, hstate]
    have hreply : requestReply x u reply (idle s) = collectReply u reply (idle s) := by simp only [requestReply, hk]
    rw [reply_to_parked hquiet hreceives hcarries (by rw [hk]; rfl), hreply]
    refine ⟨?_, ?_, ?_, ?_, ?_⟩
    · rintro words rfl
      simp only [collectReply, parkedSegment_parked hr hstate]
      exact afterSegment_segmentDone hr hun _ _
    · rintro rfl
      simp only [collectReply, parkedSegment_parked hr hstate]
      exact afterSegment_segmentDone hr hun _ _
    · intro hagain
      have hcollect : collectReply u reply (idle s) = collectAgain u (idle s) := by rcases hagain with rfl | rfl <;> rfl
      rw [hcollect, collectAgain_eq hr hstate]
      rfl
    · rintro rfl
      exact congrArg _ (completeRequest_eq_completed .rejected hr hun)
    · rintro rfl
      exact congrArg _ (completeRequest_eq_completed .stationFault hr hun)
  · have hr : (idle s).request u = some r := hcarries.2.2.1
    have hun : r.unfinished = true := by simp [Request.unfinished, hcarries.2.2.2.1]
    have hreply : requestReply x u reply (idle s) = abandonAcked u (idle s) := by simp only [requestReply, hk]
    rw [reply_to_parked hquiet hreceives hcarries (by rw [hk]; rfl), hreply]
    simp only [abandonAcked, hr]
    rw [completeRequest_eq_completed _ hr hun]

end Sys2Proof.Proofs
end

section
/-! PROOFS. A valid reply to a phase of a MODIFY and to a segment of a posted entry, and the end of a BROADCAST's gap
(R103 to R126). -/

namespace Sys2Proof.Proofs

open Sys2Proof.Machine Sys2Proof.Claims

variable {s a : State} {x : Exchange} {rc : Reception} {reply : Reply} {u : Tag} {r : Request} {i : StationId}
  {p : PostedIndex} {e : Posted}

/-! ### MODIFY (R118 to R126) -/

theorem holds_iff {relation : Relation} {v w : Word} : relation.holds v w = true ↔ Claims.Holds relation v w := by
  cases relation with
  | eq | ne => simp [Relation.holds, Claims.Holds]
  | ltu | geu => simp [Relation.holds, Claims.Holds, BitVec.ult]
  | lts | ges => simp [Relation.holds, Claims.Holds, BitVec.slt]

theorem evaluate_iff {m : ModifyPart} {old : Word} : m.evaluate old = true ↔
    Claims.Holds m.relation (old &&& m.compareMask) (m.operand &&& m.compareMask) := holds_iff

theorem modifyReadData_eq {m : ModifyPart} (hr : a.request u = some r) (hk : r.kind = .modify m) (old : Word) :
    modifyReadData u old a =
      if m.evaluate old then
        if r.cancelPending then
          completeRequest u .cancelled (a.putRequest u
            (some { r with kind := .modify { m with oldValue := some old }, data := [old], busyCount := 0 }))
        else a.putRequest u (some
          { r with
            kind := .modify { m with oldValue := some old, phase := .write }, data := [old], busyCount := 0
            state := .queued })
      else completeRequest u .success (a.putRequest u (some
        { r with kind := .modify { m with oldValue := some old }, data := [old], busyCount := 0, wordsDone := 1 })) := by
  simp only [modifyReadData, hr, hk]

/-- Settles O52: the relation decides, and the two phases end as R118 to R126 say. -/
theorem modifyFollowsItsRelation : Obligations.ModifyFollowsItsRelation := by
  intro s x rc u r m reply hquiet hreceives hcarries hkind hphase
  have hr : (answered s r.station).request u = some r := hcarries.2.2.1
  have hun : r.unfinished = true := by simp [Request.unfinished, hcarries.2.2.2.1]
  have htoggled : x.kind.toggled = true := by rcases hphase with hk | hk <;> rw [hk] <;> rfl
  rw [reply_to_active hquiet hreceives hcarries htoggled]
  refine ⟨?_, ?_, ?_⟩
  · rintro old hk rfl
    have hreply : requestReply x u (.data [old]) (answered s r.station) = modifyReadData u old (answered s r.station) := by
      simp only [requestReply, hk]; rfl
    rw [hreply, modifyReadData_eq hr hkind]
    refine ⟨fun hnot => ?_, fun hholds hcancel => ?_, fun hholds hcancel => ?_⟩
    · rw [if_neg fun h => hnot (evaluate_iff.mp h)]
      exact congrArg _ (completeRequest_putRequest _ hun)
    · rw [if_pos (evaluate_iff.mpr hholds), if_pos hcancel]
      exact congrArg _ (completeRequest_putRequest _ hun)
    · rw [if_pos (evaluate_iff.mpr hholds), if_neg (by simp [hcancel])]
      rfl
  · rintro hk rfl
    have hreply : requestReply x u .ack (answered s r.station) = modifyWriteAck u (answered s r.station) := by
      simp only [requestReply, hk]
    rw [hreply, modifyWriteAck, updateRequest_of_some hr]
    simp only [Request.mapModify, hkind]
    exact congrArg _ (completeRequest_putRequest _ hun)
  · rintro reason rfl
    have hreply : requestReply x u (.nak reason) (answered s r.station) = requestNak u reason (answered s r.station) := by
      rcases hphase with hk | hk <;> simp only [requestReply, hk]
    rw [hreply]
    refine afterNak_requestNak (failing := phaseFailed m) hr hun (fun q hq => ?_) (fun _ h => h) reason
    simp only [Request.mapModify, hq, hkind]
    rfl

/-! ### Posted entries (R103 to R106) -/

theorem applyReply_posted (howner : x.owner = .posted p) (hd : x.destination = .station i)
    (htoggled : x.kind.toggled = true) : applyReply x reply (idle s) = postedReply p x.count reply (answered s i) := by
  simp only [applyReply, howner]
  rw [flipToggle_idle hd, if_pos htoggled]

theorem freePosted_putPosted_eq_freed (hd : a.dropped ≤ 255) (cause : Option FaultCause) :
    freePosted p cause (a.putPosted p (some e)) = freed a p e cause.toList := by
  have he : (a.putPosted p (some e)).postedEntry p = some e := (postedEntry_putPosted a p p _).trans (if_pos rfl)
  have hsame : ∀ causes, freed (a.putPosted p (some e)) p e causes = freed a p e causes := fun causes => by
    cases ht : e.target <;> simp [freed, unqueued, ht, State.putPosted, State.station]
  cases cause with
  | none => exact (freePosted_none_eq he).trans (hsame [])
  | some c => exact (freePosted_some_eq (s := a.putPosted p (some e)) hd he c).trans (hsame [c])

theorem postedAck_eq (he : a.postedEntry p = some e) (length : Nat) : postedAck p length a =
    if e.wordsDone + length = e.data.length then
      freePosted p none (a.putPosted p (some { e with wordsDone := e.wordsDone + length, busyCount := 0 }))
    else if e.flushPending then
      freePosted p (some .cancelled) (a.putPosted p (some { e with wordsDone := e.wordsDone + length, busyCount := 0 }))
    else a.putPosted p (some { e with wordsDone := e.wordsDone + length, busyCount := 0, state := .queued }) := by
  simp only [postedAck, he]
  rfl

theorem postedBusy_eq (he : a.postedEntry p = some e) : postedBusy p a =
    if a.settings.busyLimitReached (busier e.busyCount) then freePosted p (some .busyLimit) a
    else if e.flushPending then freePosted p (some .cancelled) a
    else a.putPosted p
      (some { e with busyCount := busier e.busyCount, state := .waiting a.settings.backoffTicks }) := by
  simp only [postedBusy, he]
  rfl

theorem broadcastGapEnd_other (h : ∀ x n, s.exchange = some x → x.phase ≠ .gap n) : broadcastGapEnd s = s := by
  unfold broadcastGapEnd
  split
  next x hx =>
    split
    next n hp => exact absurd hp (h x n hx)
    all_goals rfl
  next => rfl

theorem broadcastGapEnd_gap {n : Nat} (hx : s.exchange = some x) (hp : x.phase = .gap n) :
    broadcastGapEnd s = endExchange x (applySent x) s := by
  simp only [broadcastGapEnd, hx, hp]

/-- Settles O53: a posted segment's reply frees, delays or requeues its entry, and a gap's end frees the broadcast. -/
theorem postedWorkIsDeliveredOrReported : Obligations.PostedWorkIsDeliveredOrReported := by
  refine ⟨fun s x rc p e i reply hquiet hfaults hreceives hcarries => ?_, fun s => ⟨fun h => ?_, ?_⟩⟩
  · obtain ⟨hk, howner, hd, htarget, he, hstate⟩ := hcarries
    have he : (answered s i).postedEntry p = some e := he
    have hdropped : (answered s i).dropped ≤ 255 := hfaults.2.1
    have hout : exec (.receptionEnd rc) s = .next (postedReply p x.count reply (answered s i)) := by
      rw [exec_receptionEnd_quiet hquiet hreceives, applyReply_posted howner hd (by rw [hk]; rfl)]
    have hfree (cause : FaultCause) : freePosted p (some cause) (answered s i) = freed (answered s i) p e [cause] :=
      freePosted_some_eq hdropped he cause
    have hfreed (e1 : Posted) (cause : Option FaultCause) :
        freePosted p cause ((answered s i).putPosted p (some e1)) = freed (answered s i) p e1 cause.toList :=
      freePosted_putPosted_eq_freed hdropped cause
    refine ⟨?_, ?_, ?_, ?_⟩
    · rintro rfl
      rw [hout, postedReply, postedAck_eq he]
      refine ⟨fun (hdone : e.wordsDone + x.count = e.data.length) => ?_,
        fun (hdone : e.wordsDone + x.count ≠ e.data.length) hflush => ?_,
        fun (hdone : e.wordsDone + x.count ≠ e.data.length) hflush => ?_⟩
      · rw [if_pos hdone, hfreed]; rfl
      · rw [if_neg hdone, if_pos hflush, hfreed]; rfl
      · rw [if_neg hdone, if_neg (by simp [hflush])]; rfl
    · rintro rfl
      exact hout.trans (congrArg _ (hfree .rejected))
    · rintro rfl
      exact hout.trans (congrArg _ (hfree .stationFault))
    · rintro rfl
      rw [hout, postedReply, postedBusy_eq he]
      refine ⟨fun hlimit => ?_, fun hlimit hflush => ?_, fun hlimit hflush => ?_⟩
      · rw [if_pos ((busyLimitReached_iff (g := (answered s i).settings)).mpr hlimit), hfree]
      · rw [if_neg (mt (busyLimitReached_iff (g := (answered s i).settings)).mp hlimit), if_pos hflush, hfree]
      · rw [if_neg (mt (busyLimitReached_iff (g := (answered s i).settings)).mp hlimit), if_neg (by simp [hflush])]; rfl
  · exact congrArg _ (broadcastGapEnd_other h)
  · intro x n p e hquiet hx hk hp howner he htarget
    have hend := (broadcastGapEnd_gap hx hp).trans (endExchange_of_quiet (blind_applySent x) hquiet)
    refine congrArg _ (hend.trans ?_)
    simp only [applySent, howner]
    rw [updatePosted_of_some (s := idle s) he, freePosted_none_eq ((postedEntry_putPosted (idle s) p p _).trans (if_pos rfl))]
    simp [freed, unqueued, htarget, State.putPosted]

end Sys2Proof.Proofs
end

section
/-! PROOFS. A valid reply to a POLL (R166 to R169), to the exchange of a stale entry (R152) and to an IDENTIFY (R45, R67). -/

namespace Sys2Proof.Proofs

open Sys2Proof.Machine Sys2Proof.Claims

variable {s a : State} {x : Exchange} {rc : Reception} {reply : Reply} {u : Tag} {r : Request} {i : StationId}

/-! ### The items of an ATTN (R166 to R168) -/

theorem isAfter_iff {v w : Byte} : isAfter v w = true ↔
    ¬ ((v.toNat + 256 - w.toNat) % 256 = 0 ∨ 127 < (v.toNat + 256 - w.toNat) % 256) := by
  have hw := w.isLt
  have hsub : (v - w).toNat = (v.toNat + 256 - w.toNat) % 256 := by
    rw [BitVec.toNat_sub]
    congr 1
    omega
  simp only [isAfter, Bool.and_eq_true, decide_eq_true_eq, hsub]
  omega

theorem matches_item_iff {item : AttentionItem} {code : Byte} :
    item.matches i code = true ↔ item.station = i ∧ item.code = code := by
  simp [AttentionItem.matches]

theorem mergeItem_eq (queue : List AttentionItem) (i : StationId) (e : AttnEntry) : mergeItem queue i e =
    queue.map fun item => if item.station = i ∧ item.code = e.code then
      { item with occurrences := min 255 (item.occurrences + 1), info := e.info } else item := by
  simp only [mergeItem, matches_item_iff]
  rfl

theorem takeOne_stopped {p : AttnProgress} (h : p.stopped = true) (items : List AttnEntry) :
    items.foldl (takeOne i) p = p := by
  induction items with
  | nil => rfl
  | cons e items ih => rw [List.foldl_cons, takeOne, if_pos h, ih]

/-- The items are taken one after another until one is left. -/
theorem takeItems_eq (items : List AttnEntry) (queue : List AttentionItem) (last : Byte) :
    takeItems i items queue last = items.foldl (takeOne i) { queue := queue, last := last, stopped := false } := by
  induction items generalizing queue last with
  | nil => rfl
  | cons e items ih =>
    rw [List.foldl_cons, takeItems, takeOne]
    simp only [Bool.false_eq_true, if_false]
    by_cases hafter : isAfter e.sequence last = true
    case neg =>
      rw [if_neg hafter, if_pos (not_not.mp (mt isAfter_iff.mpr hafter)), ih]
    rw [if_pos hafter, if_neg (isAfter_iff.mp hafter)]
    by_cases hany : ∃ item ∈ queue, item.station = i ∧ item.code = e.code
    · rw [if_pos hany, if_pos (by simpa [matches_item_iff] using hany), ih, mergeItem_eq]
    · rw [if_neg hany, if_neg (by simpa [matches_item_iff] using hany)]
      by_cases hspace : queue.length < 32
      · rw [if_pos hspace, if_pos (show queue.length < Config.attentionItems from hspace), ih]
      · rw [if_neg hspace, if_neg (show ¬ queue.length < Config.attentionItems from hspace), takeOne_stopped rfl]

/-- The poll timer is started when no poll is due at once, of an attention capable station alone (R169). -/
theorem endedTimer (capable again stopped : Bool) (ticks : Nat) :
    (if capable && !(again && !stopped) then some ticks else none) =
      if again && !stopped then none else if capable then some ticks else none := by
  cases capable <;> cases again <;> cases stopped <;> rfl

theorem applyReply_station (howner : x.owner = .station i) (hd : x.destination = .station i)
    (htoggled : x.kind.toggled = false) : applyReply x reply (idle s) = stationReply i reply (idle s) := by
  simp only [applyReply, howner]
  rw [flipToggle_idle hd, if_neg (by simp [htoggled])]

/-- Settles O54: the items by `takeItems_eq`, the bookkeeping by R169. -/
theorem pollRepliesFillTheAttentionQueue : Obligations.PollRepliesFillTheAttentionQueue := by
  intro s x rc i reply hquiet hreceives hk howner hd
  rw [exec_receptionEnd_quiet hquiet hreceives, applyReply_station howner hd (by rw [hk]; rfl)]
  refine ⟨?_, ?_⟩
  · rintro rfl
    show Host.Outcome.next (pollQuiet i (idle s)) = _
    simp only [pollQuiet, Station.pollEnded, Bool.and_false, Bool.not_false, Bool.and_true]
    rfl
  · rintro items more rfl
    show Host.Outcome.next (pollAttn i items more (idle s)) = _
    have hitems := takeItems_eq (i := i) items s.attention (s.station i).lastSequence
    have hattn : pollAttn i items more (idle s) = { idle s with
        attention := (takeItems i items s.attention (s.station i).lastSequence).queue
        stations := s.stations.set i
          ({ s.station i with lastSequence := (takeItems i items s.attention (s.station i).lastSequence).last }.pollEnded
            s.settings.pollTicks (more && !(takeItems i items s.attention (s.station i).lastSequence).stopped)
            (takeItems i items s.attention (s.station i).lastSequence).stopped) } := rfl
    rw [hattn, hitems]
    generalize items.foldl _ _ = p
    have hended : ({ s.station i with lastSequence := p.last }.pollEnded s.settings.pollTicks (more && !p.stopped) p.stopped) =
        { s.station i with
          lastSequence := p.last
          backlog := p.stopped
          pollDue := (s.station i).attentionCapable && more && !p.stopped
          pollTimer := if more && !p.stopped then none
            else if (s.station i).attentionCapable then some (1000 * s.settings.pollInterval.toNat) else none } := by
      simp only [Station.pollEnded, endedTimer, Bool.and_assoc]
      rfl
    rw [hended]

/-! ### Stale entries (R152) -/

theorem ownerReply_stale (hr : a.request u = some r) (hun : r.unfinished = true) (hstale : r.stale = true) :
    ownerReply x u reply a =
      if leavesParked x.kind reply then requestReply x u reply a else freeRequest u a := by
  simp only [ownerReply, hr, if_pos hun, hstale, Bool.true_and]
  cases leavesParked x.kind reply <;> rfl

theorem leavesParked_eq_false {kind : ExchangeKind} (hnotParked : reply ≠ .parked)
    (hnotBusy : ¬ (kind = .collect ∧ reply = .nak .busy)) : leavesParked kind reply = false := by
  unfold leavesParked
  split
  case h_4 => exact absurd ⟨rfl, rfl⟩ hnotBusy
  case h_5 => rfl
  all_goals exact absurd rfl hnotParked

/-- Settles O56: a reply that does not leave the stale entry PARKED frees it. -/
theorem staleEntryIsFreedByItsExchange : Obligations.StaleEntryIsFreedByItsExchange := by
  intro s x rc u r w reply hquiet hreceives howner hd hr ho hstale hkind
  have hun : r.unfinished = true := by
    rcases hkind with ⟨-, hstate⟩ | ⟨-, part, hstate⟩ <;> simp [Request.unfinished, hstate]
  have hs : r.stale = true := by simp only [Request.stale, ho, hstale]
  have htoggled : (if x.kind.toggled = true then answered s r.station else idle s) =
      if x.kind = .readSegment then answered s r.station else idle s := by
    rcases hkind with ⟨hk, -⟩ | ⟨hk | hk, -⟩ <;> rw [hk] <;> rfl
  have hra : (if x.kind = .readSegment then answered s r.station else idle s).request u = some r := by
    split <;> exact hr
  have hrequests : (if x.kind = .readSegment then answered s r.station else idle s).requests = s.requests := by
    split <;> rfl
  have hsettings : (if x.kind = .readSegment then answered s r.station else idle s).settings = s.settings := by
    split <;> rfl
  rw [exec_receptionEnd_quiet hquiet hreceives, applyReply_request howner hd, htoggled, ownerReply_stale hra hun hs]
  rw [← hrequests, ← hsettings]
  generalize (if x.kind = .readSegment then answered s r.station else idle s) = a at hra
  refine ⟨fun hnotParked hnotBusy => ?_, ?_, ?_⟩
  · rw [leavesParked_eq_false hnotParked hnotBusy, if_neg Bool.false_ne_true, freeRequest_eq_vacated hra]
    rfl
  · rintro hk rfl
    have hreply : requestReply x u .parked a =
        enterParked u { write := false, address := x.address, length := x.count } a := by
      simp only [requestReply, hk, segmentReply]
    rw [if_pos (by rw [hk]; rfl), hreply, enterParked_eq hra]
    rfl
  · intro part hk hagain hstate
    have hreply : requestReply x u reply a = collectAgain u a := by
      rcases hagain with rfl | rfl <;> simp only [requestReply, hk, collectReply]
    rw [if_pos (by rw [hk]; rcases hagain with rfl | rfl <;> rfl), hreply, collectAgain_eq hra hstate]

/-! ### The end of an IDENTIFY (R45, R67) -/

theorem exec_endsFailed {c : Instr} (hx : s.exchange = some x) (hlast : x.limit ≤ x.attempt) (h : EndsFailed s x c) :
    exec c s = .next (endExchange x (applyFailed x) s) := by
  cases c with
  | replyWindowClose =>
    obtain ⟨n, hp⟩ := h
    exact congrArg _ ((replyWindowClose_window hx hp).trans (attemptFailed_last hlast))
  | receptionOverrun =>
    obtain ⟨rate, hp⟩ := h
    exact congrArg _ ((receptionOverrun_receiving hx hp).trans (attemptFailed_last hlast))
  | receptionEnd rc =>
    obtain ⟨⟨rate, hp⟩, hbad⟩ := h
    exact congrArg _ ((receptionEnd_bad hx hp hbad).trans (attemptFailed_last hlast))
  | _ => exact absurd h id

/-- With no access held, the end of an exchange outside the drain is its outcome and the pass's move. -/
theorem endExchange_of_free {f : State → State} (hf : Blind f) (ha : s.access = none) (hl : s.link ≠ .draining) :
    endExchange x f s = advancePass x (f (idle s)) := by
  obtain ⟨hlink, haccess, -⟩ := hf.keeps (idle s)
  have hnot : (advancePass x (f (idle s))).link ≠ .draining := by
    rcases advancePass_cases x (f (idle s)) with ⟨-, heq⟩ | ⟨-, -, ⟨-, heq⟩ | ⟨-, heq⟩⟩ <;> rw [heq]
    · rw [hlink]; exact hl
    · exact nofun
    · show (f (idle s)).link ≠ _
      rw [hlink]; exact hl
  rw [endExchange]
  show drainIfIdle (advancePass x (settleHeld (f (idle s)))) = _
  rw [settleHeld_of_none (haccess.trans ha), drainIfIdle_of_not hnot]

theorem latchedLink_completeRequest (u : Tag) (status : Status) (s : State) :
    (completeRequest u status s).latched.link = s.latched.link := by
  cases hr : s.request u with
  | none => rw [completeRequest_finished status fun r h => by rw [hr] at h; cases h]
  | some r =>
    cases hu : r.unfinished with
    | true =>
      rw [completeRequest_eq_completed status hr hu]
      show (completedCauses s r).link = _
      unfold completedCauses
      cases r.origin <;> rfl
    | false => rw [completeRequest_finished status fun q h => by cases hr.symm.trans h; exact hu]

theorem latchedLink_freePosted (p : PostedIndex) (cause : Option FaultCause) (s : State) :
    (freePosted p cause s).latched.link = s.latched.link := by
  cases he : s.postedEntry p with
  | none => rw [freePosted_of_free he]
  | some e => rw [freePosted_eq_retired he]; rfl

theorem latchedLink_loseMembers (members : List EntryRef) (s : State) :
    (members.foldl loseMember s).latched.link = s.latched.link := by
  induction members generalizing s with
  | nil => rfl
  | cons y rest ih =>
    rw [List.foldl_cons, ih]
    cases y with
    | request u => exact latchedLink_completeRequest u _ s
    | posted p => exact latchedLink_freePosted p _ s

/-- Settles O55: the station's record is the identity's, and the pass moves on after either end of the IDENTIFY. -/
theorem identityMakesItsStationOnline : Obligations.IdentityMakesItsStationOnline := by
  intro s x i ha hx hk howner hd
  refine ⟨fun rc f hreceives => ?_, fun c rest hlast hends hl hpass => ?_⟩
  · obtain ⟨-, ⟨rate, hp⟩, hvalid⟩ := hreceives
    have hend (hl : s.link ≠ .draining) :
        exec (.receptionEnd rc) s = .next (advancePass x (enterOnline i f (idle s))) := by
      refine congrArg _ ((receptionEnd_valid hx hp hvalid).trans
        ((endExchange_of_free (blind_applyReply x _) ha hl).trans (congrArg _ ?_)))
      exact applyReply_station howner hd (by rw [hk]; rfl)
    refine ⟨fun hl => ?_, fun rest hl hpass => ⟨fun hrest => ?_, fun hrest => ?_⟩⟩
    · rw [hend (by rw [hl]; nofun), advancePass_of_up (s := enterOnline i f (idle s)) hl]
      rfl
    · have hpass' : (enterOnline i f (idle s)).pass.tail = rest := congrArg List.tail hpass
      rcases advancePass_cases x (enterOnline i f (idle s)) with ⟨hnot, -⟩ | ⟨-, -, ⟨ht, -⟩ | ⟨-, heq⟩⟩
      · exact absurd ⟨hk, hl⟩ hnot
      · exact absurd (hpass'.symm.trans ht) hrest
      · rw [hend (by rw [hl]; nofun), heq, hpass']
        rfl
    · have hpass' : (enterOnline i f (idle s)).pass.tail = rest := congrArg List.tail hpass
      rcases advancePass_cases x (enterOnline i f (idle s)) with ⟨hnot, -⟩ | ⟨-, -, ⟨-, heq⟩ | ⟨ht, -⟩⟩
      · exact absurd ⟨hk, hl⟩ hnot
      · rw [hend (by rw [hl]; nofun), heq]
        rfl
      · exact absurd (hpass'.trans hrest) ht
  · have hfailed : applyFailed x (idle s) = lostTransition i (.station i) (idle s) := by
      simp only [applyFailed, hd, howner]
    have hexec : exec c s = .next (advancePass x (lostTransition i (.station i) (idle s))) := by
      refine (exec_endsFailed hx hlast hends).trans (congrArg _ ?_)
      rw [endExchange_of_free (blind_applyFailed x) ha (by rw [hl]; nofun), hfailed]
    have hmembers := effects_loseMembers (B := True) (W := True) (Q := True) (s := idle s) (s.station i).queue rfl
    have hexchange : (lostTransition i (.station i) (idle s)).exchange = none := hmembers.exchange_none rfl
    have hframe := hmembers.frame
    have hstate : ((lostTransition i (.station i) (idle s)).station i).state = .lost := by
      rw [lostTransition_eq]
      simp [State.latchStation, State.station]
    have hlink : (lostTransition i (.station i) (idle s)).latched.link = s.latched.link :=
      latchedLink_loseMembers (s.station i).queue (idle s)
    have hpass' : (lostTransition i (.station i) (idle s)).pass.tail = rest := by
      have : (lostTransition i (.station i) (idle s)).pass = s.pass := hframe.pass
      rw [this, hpass]; rfl
    have henumerating : (lostTransition i (.station i) (idle s)).link = .enumerating := hframe.link.trans hl
    generalize hlost : lostTransition i (.station i) (idle s) = t at *
    have hstation : t.latched.station = true := by rw [← hlost]; rfl
    refine ⟨_, hexec, ?_⟩
    rcases advancePass_cases x t with ⟨hnot, -⟩ | ⟨-, -, ⟨ht, heq⟩ | ⟨ht, heq⟩⟩
    · exact absurd ⟨hk, henumerating⟩ hnot
    · rw [heq]
      rw [hpass'] at ht
      exact ⟨hexchange, hstate, hstation, ht.symm, fun h => absurd ht h, fun _ => ⟨rfl, rfl⟩⟩
    · rw [heq]
      rw [hpass'] at ht
      exact ⟨hexchange, hstate, hstation, hpass', fun _ => ⟨henumerating, hlink⟩, fun h => absurd h ht⟩

end Sys2Proof.Proofs
end

section
/-! PROOFS. What follows the end of an exchange: the held access is settled, the pass moves on, the drain ends (R47, R149,
R157). -/

namespace Sys2Proof.Proofs

open Sys2Proof.Machine Sys2Proof.Claims

variable {s g m : State} {x : Exchange} {u : Tag} {r : Request} {w : WindowPart} {a v : Word} {c : Instr} {n : Nat}

/-! ### The rows by which an exchange may end -/

theorem receptionOverrun_other (h : ∀ x rate, s.exchange = some x → x.phase ≠ .receiving rate) :
    receptionOverrun s = s := by
  unfold receptionOverrun
  split
  next x hx =>
    split
    next rate hp => exact absurd hp (h x rate hx)
    all_goals rfl
  next => rfl

theorem attemptFailed_cases (x : Exchange) (s : State) :
    (∃ y, ∀ k, attemptFailed x (masked k s) = masked k { s with exchange := some y }) ∨
      ∀ k, attemptFailed x (masked k s) = endExchange x (applyFailed x) (masked k s) := by
  by_cases h : x.attempt < x.limit
  · exact .inl ⟨{ x with attempt := x.attempt + 1, phase := .pairWait s.settings.replyTicks },
      fun k => attemptFailed_repeats (s := masked k s) h⟩
  · exact .inr fun k => attemptFailed_last (Nat.le_of_not_lt h)

/-- Such a row leaves an exchange in flight or ends the exchange with one of the three outcomes, whatever the link state and
the held access are. -/
theorem ending_cases (hc : MayEndExchange c) (hx : s.exchange = some x) :
    (∃ y, ∀ k, exec c (masked k s) = .next (masked k { s with exchange := some y })) ∨
      ∃ f, Blind f ∧ Outcome s (f (idled s)) x ∧ ∀ k, exec c (masked k s) = .next (endExchange x f (masked k s)) := by
  have hstays (f : State → State) (h : ∀ k, f (masked k s) = masked k s) :
      ∃ y, ∀ k, Host.Outcome.next (φ := Fault) (ρ := Refusal) (f (masked k s)) =
        .next (masked k { s with exchange := some y }) :=
    ⟨x, fun k => congrArg _ ((h k).trans (by rw [← hx]))⟩
  have hfails (hkind : Owned s x → x.kind ≠ .broadcast)
      (hexec : ∀ k, exec c (masked k s) = .next (attemptFailed x (masked k s))) :
      (∃ y, ∀ k, exec c (masked k s) = .next (masked k { s with exchange := some y })) ∨
        ∃ f, Blind f ∧ Outcome s (f (idled s)) x ∧ ∀ k, exec c (masked k s) = .next (endExchange x f (masked k s)) := by
    rcases attemptFailed_cases x s with ⟨y, hy⟩ | hend
    · exact .inl ⟨y, fun k => (hexec k).trans (congrArg _ (hy k))⟩
    · exact .inr ⟨_, blind_applyFailed x, outcome_failed hx hkind, fun k => (hexec k).trans (congrArg _ (hend k))⟩
  rcases hc with rfl | rfl | rfl | ⟨rc, rfl⟩
  · by_cases hp : ∃ n, x.phase = .window n
    · obtain ⟨n, hp⟩ := hp
      exact hfails (kind_of_window hp) fun k => congrArg _ (replyWindowClose_window (s := masked k s) hx hp)
    · exact .inl (hstays replyWindowClose fun k => replyWindowClose_other (s := masked k s)
        fun y n hy h => hp ⟨n, by cases hx.symm.trans hy; exact h⟩)
  · by_cases hp : ∃ rate, x.phase = .receiving rate
    · obtain ⟨rate, hp⟩ := hp
      exact hfails (kind_of_receiving hp) fun k => congrArg _ (receptionOverrun_receiving (s := masked k s) hx hp)
    · exact .inl (hstays receptionOverrun fun k => receptionOverrun_other (s := masked k s)
        fun y n hy h => hp ⟨n, by cases hx.symm.trans hy; exact h⟩)
  · by_cases hp : ∃ n, x.phase = .gap n
    · obtain ⟨n, hp⟩ := hp
      exact .inr ⟨_, blind_applySent x, outcome_sent hx (kind_of_gap hp),
        fun k => congrArg _ (broadcastGapEnd_gap (s := masked k s) hx hp)⟩
    · exact .inl (hstays broadcastGapEnd fun k => broadcastGapEnd_other (s := masked k s)
        fun y n hy h => hp ⟨n, by cases hx.symm.trans hy; exact h⟩)
  · by_cases hp : ∃ rate, x.phase = .receiving rate
    · obtain ⟨rate, hp⟩ := hp
      cases hvalid : s.judgement x rc with
      | some reply =>
        exact .inr ⟨_, blind_applyReply x reply, outcome_reply hx hvalid,
          fun k => congrArg _ (receptionEnd_valid (s := masked k s) hx hp hvalid)⟩
      | none => exact hfails (kind_of_receiving hp) fun k => congrArg _ (receptionEnd_bad (s := masked k s) hx hp hvalid)
    · exact .inl (hstays (receptionEnd rc) fun k => (reception_other (rc := rc) (s := masked k s)
        fun y n hy h => hp ⟨n, by cases hx.symm.trans hy; exact h⟩).2)

/-! ### The settling of a held access -/

theorem settleHeld_read (ha : s.access = some (.read u a n)) : settleHeld s = answerHeldRead s := by
  have hafter : ∀ t : State, t.access = none ∨ t = s → giveHeldWriteSpace (dropHeldWrite t) = t := by
    rintro t (ht | rfl)
    · simp only [dropHeldWrite, ht, giveHeldWriteSpace]
    · simp only [dropHeldWrite, ha, giveHeldWriteSpace]
  refine hafter (answerHeldRead s) ?_
  unfold answerHeldRead
  rw [ha]
  dsimp only
  split
  next r hr =>
    split
    next w status ho hstate =>
      refine .inl ?_
      unfold answer hit errorHit
      dsimp only
      split
      · split
        · exact ((blind_freeRequest u).keeps _).2.1
        · rfl
      · exact ((blind_freeRequest u).keeps _).2.1
    next => exact .inr rfl
  next => exact .inr rfl

theorem answerHeldRead_done {status : Status} (ha : s.access = some (.read u a n)) (hr : s.request u = some r)
    (ho : r.origin = .window w) (hstate : r.state = .done status) :
    answerHeldRead s = answer u r w status a { s with access := none } := by
  simp only [answerHeldRead, ha, hr, ho, hstate]

theorem answerHeldRead_not_done (ha : s.access = some (.read u a n))
    (h : ∀ r status, s.request u = some r → r.state ≠ .done status) : answerHeldRead s = s := by
  unfold answerHeldRead
  rw [ha]
  dsimp only
  split
  next r hr =>
    split
    next w status ho hstate => exact absurd hstate (h r status hr)
    next => rfl
  next => rfl

/-- The settling of a held write: a drop when its station is not ONLINE, the acceptance when there is space. -/
theorem settleHeld_write (ha : s.access = some (.write a v n)) : settleHeld s =
    if s.online s.settings.windowStation then
      if s.postedSpace then openEntryFor a v (closeOpen { s with access := none }) else s
    else dropWrite a { s with access := none } := by
  have hread : answerHeldRead s = s := by simp only [answerHeldRead, ha]
  have hnone : (dropWrite a { s with access := none }).access = none := (blind_appendFault _).keeps _ |>.2.1
  rw [settleHeld, hread]
  by_cases hon : s.online s.settings.windowStation = true
  · have hdrop : dropHeldWrite s = s := by simp only [dropHeldWrite, ha, hon, if_true]
    rw [hdrop, if_pos hon]
    simp only [giveHeldWriteSpace, ha, hon, if_true]
  · have hdrop : dropHeldWrite s = dropWrite a { s with access := none } := by
      simp only [dropHeldWrite, ha]
      exact if_neg hon
    rw [hdrop, if_neg hon]
    simp only [giveHeldWriteSpace, hnone]

/-- The exchange, the link and the pass are not the held access's. -/
theorem frame_settleHeld (s : State) : SameFrame s (settleHeld s) :=
  (effects_settleHeld (B := True) (W := True) (Q := True)).frame

/-- Outside the drain, the end of an exchange is its outcome, the settling of the held access and the pass's move. -/
theorem endExchange_of_not_draining {f : State → State} (hf : Blind f) (hl : s.link ≠ .draining) :
    endExchange x f s = advancePass x (settleHeld (f (idle s))) := by
  have hlink : (settleHeld (f (idle s))).link = s.link := (frame_settleHeld _).link.trans (hf.keeps (idle s)).1
  refine drainIfIdle_of_not ?_
  show (advancePass x (settleHeld (f (idle s)))).link ≠ .draining
  rcases advancePass_cases x (settleHeld (f (idle s))) with ⟨-, heq⟩ | ⟨-, -, ⟨-, heq⟩ | ⟨-, heq⟩⟩ <;> rw [heq]
  · rw [hlink]; exact hl
  · exact nofun
  · show (settleHeld (f (idle s))).link ≠ _
    rw [hlink]; exact hl

/-! ### The move of the pass (R45) -/

/-- The state with the pass, the link state and the LINK cause moved. -/
def moved (pass : List StationId) (link : LinkState) (latch : Bool) (s : State) : State :=
  { s with pass := pass, link := link, latched := { s.latched with link := s.latched.link || latch } }

/-- The pass moves by the link state and the pass alone. -/
theorem advancePass_moved (x : Exchange) (g : State) : ∃ pass link latch,
    ∀ t : State, t.link = g.link → t.pass = g.pass → advancePass x t = moved pass link latch t := by
  by_cases h : x.kind = .identify ∧ g.link = .enumerating
  · cases htail : g.pass.tail with
    | nil =>
      refine ⟨[], .up, true, fun t hl hp => ?_⟩
      rcases advancePass_cases x t with ⟨hnot, -⟩ | ⟨-, -, ⟨-, heq⟩ | ⟨ht, -⟩⟩
      · exact absurd ⟨h.1, hl.trans h.2⟩ hnot
      · rw [heq, moved, Bool.or_true]; rfl
      · exact absurd (hp ▸ htail) ht
    | cons i rest =>
      refine ⟨g.pass.tail, g.link, false, fun t hl hp => ?_⟩
      rcases advancePass_cases x t with ⟨hnot, -⟩ | ⟨-, -, ⟨ht, -⟩ | ⟨-, heq⟩⟩
      · exact absurd ⟨h.1, hl.trans h.2⟩ hnot
      · rw [hp, htail] at ht; cases ht
      · rw [heq, moved, Bool.or_false, hp, ← hl]
  · refine ⟨g.pass, g.link, false, fun t hl hp => ?_⟩
    rcases advancePass_cases x t with ⟨-, heq⟩ | ⟨hk, he, -⟩
    · rw [heq, moved, Bool.or_false, ← hl, ← hp]
    · exact absurd ⟨hk, hl ▸ he⟩ h

end Sys2Proof.Proofs
end

section
/-! PROOFS. How a read hold ends (R149, R150). -/

namespace Sys2Proof.Proofs

open Sys2Proof.Machine Sys2Proof.Claims

variable {s g m : State} {x : Exchange} {u : Tag} {r : Request} {w : WindowPart} {a : Word} {c : Instr} {n : Nat}

/-! ### The rows of a held read -/

theorem expireReadHold_eq (ha : s.access = some (.read u a n)) (hr : s.request u = some r) (ho : r.origin = .window w) :
    expireReadHold s = { s with
      access := none, dataOut := some 0xFFFF#16
      windowStatus := { s.windowStatus with last := .deferred, deferredSeen := true }
      requests := s.requests.set u (some { r with origin := .window { w with held := false } }) } := by
  simp only [expireReadHold, ha, updateRequest_of_some hr, ho]
  rfl

theorem expireReadHold_other (h : ∀ u a n, s.access ≠ some (.read u a n)) : expireReadHold s = s := by
  unfold expireReadHold
  split
  next ha => exact absurd ha (h _ _ _)
  all_goals rfl

theorem answerHeldRead_other (h : ∀ u a n, s.access ≠ some (.read u a n)) : answerHeldRead s = s := by
  unfold answerHeldRead
  split
  next ha => exact absurd ha (h _ _ _)
  all_goals rfl

/-- The answer to a read once its entry is DONE, in the terms of the claims. -/
theorem answer_eq (hq : QueuesExact s) (ha : s.access = none) (hr : s.request u = some r) {status : Status}
    (hstate : r.state = .done status) : answer u r w status a s =
      if status = .success then readAnswered s u r w a else readFailed s u status := by
  have hfinished : r.unfinished = false := by simp [Request.unfinished, hstate]
  unfold answer
  rw [hit_eq hq hr hfinished, errorHit_eq hq hr hfinished, readAnswered, readFailed, ← ha]

theorem answerHeldRead_eq (hq : QueuesExact s) (ha : s.access = some (.read u a n)) (hr : s.request u = some r)
    (ho : r.origin = .window w) {status : Status} (hstate : r.state = .done status) : answerHeldRead s =
      if status = .success then readAnswered s u r w a else readFailed s u status := by
  rw [answerHeldRead_done ha hr ho hstate]
  exact answer_eq (s := { s with access := none }) hq rfl hr hstate

/-! ### The end of an exchange under a held read -/

/-- The end of an exchange, compared with the same happening without the held access: the exchange goes on in both, or both
make the same outcome `g` and the pass's same move, and the held access is settled in between. -/
theorem ending_settled (hc : MayEndExchange c) (hx : s.exchange ≠ none) (hl : s.link ≠ .draining)
    (hexec : exec c { s with access := none } = .next m) :
    (m.exchange ≠ none ∧ exec c s = .next { m with access := s.access }) ∨
      ∃ g pass link latch, m = moved pass link latch { g with access := none } ∧ g.access = s.access ∧
        m.exchange = none ∧ TablesKept s g ∧ exec c s = .next (moved pass link latch (settleHeld g)) := by
  obtain ⟨x, hx⟩ := Option.ne_none_iff_exists'.mp hx
  rcases ending_cases hc hx with ⟨y, hy⟩ | ⟨f, hf, houtcome, hend⟩
  · have hm := hexec.symm.trans (hy ⟨s.link, none, s.portWaiting⟩)
    cases hm
    exact .inl ⟨nofun, hy ⟨s.link, s.access, s.portWaiting⟩⟩
  · obtain ⟨hlink, haccess, hwait⟩ := hf.keeps (idle s)
    obtain ⟨pass, link, latch, hmoved⟩ := advancePass_moved x (f (idle s))
    have hmasked : f (idle { s with access := none }) = { f (idle s) with access := none } :=
      (hf ⟨s.link, none, s.portWaiting⟩ (idle s)).trans (by
        rw [masked, show s.link = _ from hlink.symm, show s.portWaiting = _ from hwait.symm])
    have hfree : endExchange x f { s with access := none } = moved pass link latch { f (idle s) with access := none } :=
      (endExchange_of_free (s := { s with access := none }) hf rfl hl).trans
        ((congrArg (advancePass x) hmasked).trans (hmoved _ rfl rfl))
    have hheld : endExchange x f s = moved pass link latch (settleHeld (f (idle s))) :=
      (endExchange_of_not_draining hf hl).trans (hmoved _ (frame_settleHeld _).link (frame_settleHeld _).pass)
    have hm := hexec.symm.trans ((hend ⟨s.link, none, s.portWaiting⟩).trans (congrArg _ hfree))
    cases hm
    exact .inr ⟨f (idle s), pass, link, latch, rfl, haccess, houtcome.idle, houtcome.tables,
      (hend ⟨s.link, s.access, s.portWaiting⟩).trans (congrArg _ hheld)⟩

/-- Settles O37: a held read's rows, and its settling at the end of an exchange, which commutes with the pass's move. -/
theorem readHoldEndsDeferredOrAnswered : Obligations.ReadHoldEndsDeferredOrAnswered := by
  refine ⟨fun s hq => ⟨fun hnone => ⟨congrArg _ (expireReadHold_other hnone), congrArg _ (answerHeldRead_other hnone)⟩,
    fun u a n r w ha hr ho => ⟨congrArg _ (expireReadHold_eq ha hr ho), fun hun => ?_, fun hdone => ?_,
      fun status hdone hne => ?_⟩⟩, fun s m c u a n hq hl hc hx ha hexec => ?_⟩
  · exact congrArg _ (answerHeldRead_not_done ha fun q status hq' h => by
      cases hr.symm.trans hq'
      exact (hun status).1 h)
  · exact congrArg _ ((answerHeldRead_eq hq ha hr ho hdone).trans (if_pos rfl))
  · exact congrArg _ ((answerHeldRead_eq hq ha hr ho hdone).trans (if_neg hne))
  rcases ending_settled hc hx hl hexec with ⟨hm, hs⟩ | ⟨g, pass, link, latch, rfl, hga, hgx, htables, hs⟩
  · exact ⟨fun _ => hs, fun h => absurd h hm⟩
  · rw [settleHeld_read (hga.trans ha)] at hs
    refine ⟨fun h => ?_, fun _ r w hr ho => ⟨fun hdone => ?_, fun status hdone hne => ?_⟩⟩
    · rw [answerHeldRead_not_done (hga.trans ha) (h.resolve_left fun hn => hn hgx)] at hs
      exact hs.trans (by rw [← hga]; rfl)
    · rw [answerHeldRead_eq (htables.queues hq) (hga.trans ha) hr ho hdone, if_pos rfl] at hs
      exact hs
    · rw [answerHeldRead_eq (htables.queues hq) (hga.trans ha) hr ho hdone, if_neg hne] at hs
      exact hs

end Sys2Proof.Proofs
end

section
/-! PROOFS. How a write hold ends (R157, R159). -/

namespace Sys2Proof.Proofs

open Sys2Proof.Machine Sys2Proof.Claims

variable {s g m t : State} {a v : Word} {n : Nat} {pass : List StationId} {link : LinkState} {latch : Bool}

/-! ### The rows of a held write -/

theorem online_iff : s.online s.settings.windowStation = true ↔ WindowOnline s := by
  simp only [State.online, decide_eq_true_eq, WindowOnline]

theorem dropWrite_held (hd : s.dropped ≤ 255) : dropWrite a { s with access := none } = writeDropped s a :=
  dropWrite_eq (s := { s with access := none }) hd

theorem heldWrite_other (h : ∀ a v n, s.access ≠ some (.write a v n)) :
    expireWriteHold s = s ∧ giveHeldWriteSpace s = s ∧ dropHeldWrite s = s := by
  unfold expireWriteHold giveHeldWriteSpace dropHeldWrite
  cases ha : s.access with
  | none => exact ⟨rfl, rfl, rfl⟩
  | some access =>
    cases access with
    | read => exact ⟨rfl, rfl, rfl⟩
    | write a v n => exact absurd ha (h a v n)

theorem expireWriteHold_eq (hd : s.dropped ≤ 255) (ha : s.access = some (.write a v n)) :
    expireWriteHold s = writeDropped s a := by
  simp only [expireWriteHold, ha]
  exact dropWrite_held hd

theorem dropHeldWrite_online (ha : s.access = some (.write a v n)) (hon : WindowOnline s) : dropHeldWrite s = s := by
  simp only [dropHeldWrite, ha, online_iff.mpr hon, if_true]

theorem dropHeldWrite_lost (hd : s.dropped ≤ 255) (ha : s.access = some (.write a v n)) (hon : ¬WindowOnline s) :
    dropHeldWrite s = writeDropped s a := by
  simp only [dropHeldWrite, ha]
  exact (if_neg (mt online_iff.mp hon)).trans (dropWrite_held hd)

theorem giveHeldWriteSpace_full (ha : s.access = some (.write a v n)) (hs : ¬Space s) : giveHeldWriteSpace s = s := by
  simp only [giveHeldWriteSpace, ha]
  exact if_neg (mt postedSpace_iff.mp hs)

theorem giveHeldWriteSpace_space (ha : s.access = some (.write a v n)) (hs : Space s) : giveHeldWriteSpace s =
    if s.online s.settings.windowStation then openEntryFor a v (closeOpen { s with access := none })
    else dropWrite a { s with access := none } := by
  simp only [giveHeldWriteSpace, ha]
  exact if_pos (postedSpace_iff.mpr hs)

/-- The pass's move touches nothing that an opening speaks of. -/
theorem writeOpened_moved (h : WriteOpened { s with access := none } a v t) :
    WriteOpened (moved pass link latch { s with access := none }) a v (moved pass link latch t) := by
  obtain ⟨p, e, hfree, hlower, hrow, h1, h2, h3, h4, h5, h6, h7, h8, h9, h10, hrows, hmarked, hframe⟩ := h
  exact ⟨p, e, hfree, hlower, hrow, h1, h2, h3, h4, h5, h6, h7, h8, h9, h10, hrows, hmarked,
    congrArg (moved pass link latch) hframe⟩

/-- Settles O38: a held write's rows, and its settling at the end of an exchange, which commutes with the pass's move. -/
theorem writeHoldEndsDroppedOrAccepted : Obligations.WriteHoldEndsDroppedOrAccepted := by
  refine ⟨fun s hk => ⟨fun hnone => ?_, fun a v n ha => ⟨?_, fun hon => ?_, fun hon => ?_, fun hs => ?_, fun hs hon => ?_,
    fun hs hon => ⟨_, ?_, writeOpened_of_space hs⟩⟩⟩, fun s m c a v n hk hl hc hx ha hexec => ?_⟩
  · obtain ⟨hexpire, hspace, hlost⟩ := heldWrite_other hnone
    exact ⟨congrArg _ hexpire, congrArg _ hspace, congrArg _ hlost⟩
  · exact congrArg _ (expireWriteHold_eq hk.2.1 ha)
  · exact congrArg _ (dropHeldWrite_online ha hon)
  · exact congrArg _ (dropHeldWrite_lost hk.2.1 ha hon)
  · exact congrArg _ (giveHeldWriteSpace_full ha hs)
  · exact congrArg _ ((giveHeldWriteSpace_space ha hs).trans
      ((if_neg (mt online_iff.mp hon)).trans (dropWrite_held hk.2.1)))
  · exact congrArg _ ((giveHeldWriteSpace_space ha hs).trans (if_pos (online_iff.mpr hon)))
  rcases ending_settled hc hx hl hexec with ⟨hm, hs⟩ | ⟨g, pass, link, latch, rfl, hga, hgx, htables, hs⟩
  · exact ⟨fun _ => hs, fun h => absurd h hm, fun h => absurd h hm⟩
  rw [settleHeld_write (hga.trans ha)] at hs
  refine ⟨fun h => ?_, fun _ hon => ?_, fun _ hon hspace => ⟨_, ?_,
    writeOpened_moved (writeOpened_of_space (s := { g with access := none }) hspace)⟩⟩
  · obtain ⟨hon, hspace⟩ := h.resolve_left fun hn => hn hgx
    rw [if_pos ((online_iff (s := g)).mpr hon), if_neg (mt (postedSpace_iff (s := g)).mp hspace)] at hs
    exact hs.trans (by rw [← hga]; rfl)
  · rw [if_neg (mt (online_iff (s := g)).mp hon), dropWrite_held (htables.faults hk).2.1] at hs
    exact hs
  · rw [if_pos ((online_iff (s := g)).mpr hon), if_pos ((postedSpace_iff (s := g)).mpr hspace)] at hs
    exact hs

end Sys2Proof.Proofs
end

section
/-! PROOFS. The end of the drain (R46, R47): by its row, or after the outcome of the last exchange, which is applied, the held
access settled included, as it is while the link is UP. -/

namespace Sys2Proof.Proofs

open Sys2Proof.Machine Sys2Proof.Claims

variable {s : State} {c : Instr}

/-! ### The host port's operations are blind -/

theorem blind_setResult (code : ResultCode) : Blind fun s => s.setResult code := fun _ _ => rfl

theorem blind_endRead (word : Word) (outcome : WindowOutcome) : Blind fun s => s.endRead word outcome := fun _ _ => rfl

theorem blind_setDiscarded : Blind State.setDiscarded := fun _ _ => rfl

theorem blind_closeOpen : Blind closeOpen := fun _ _ => rfl

theorem blind_markStale (target : Target) : Blind (markStale target) := fun _ _ => rfl

theorem blind_acceptPosted (p : PostedIndex) (e : Posted) : Blind (acceptPosted p e) := by
  intro k s
  cases htarget : e.target <;> simp only [acceptPosted, htarget] <;> rfl

theorem blind_hit (u : Tag) (r : Request) (w : WindowPart) (a : Word) : Blind (hit u r w a) := by
  intro k s
  by_cases hlast : a.toNat - r.start.toNat + 1 = r.count
  · simp only [hit, if_pos hlast]
    exact ((blind_freeRequest u).comp (blind_endRead _ _)) k s
  · simp only [hit, if_neg hlast]
    rfl

theorem blind_errorHit (u : Tag) (status : Status) : Blind (errorHit u status) :=
  (blind_freeRequest u).comp (blind_endRead _ _)

theorem blind_answer (u : Tag) (r : Request) (w : WindowPart) (status : Status) (a : Word) :
    Blind (answer u r w status a) := by
  unfold answer
  split
  · exact blind_hit u r w a
  · exact blind_errorHit u status

theorem blind_dropWrite (a : Word) : Blind (dropWrite a) := fun k s =>
  congrArg (fun t : State => { t with windowStatus := { s.windowStatus with droppedSeen := true } })
    (blind_appendFault (droppedRecord a s) k s)

theorem blind_openEntryFor (a v : Word) : Blind (openEntryFor a v) := by
  intro k s
  have hfirst : firstFree (masked k s).posted = firstFree s.posted := rfl
  simp only [openEntryFor, hfirst]
  cases firstFree s.posted with
  | none => rfl
  | some p => exact ((blind_markStale _).comp (blind_acceptPosted p _)) k s

/-! ### The settling of a held access does not depend on the link -/

/-- The state with the link state put to a given value. -/
def relinked (l : LinkState) (s : State) : State := { s with link := l }

theorem Blind.relinked {f : State → State} (hf : Blind f) (l : LinkState) (s : State) :
    f (relinked l s) = Proofs.relinked l (f s) := by
  obtain ⟨-, haccess, hwaiting⟩ := hf.keeps s
  refine (hf ⟨l, s.access, s.portWaiting⟩ s).trans ?_
  rw [masked, ← haccess, ← hwaiting]
  rfl

theorem settleHeld_relinked (l : LinkState) (s : State) : settleHeld (relinked l s) = relinked l (settleHeld s) := by
  have hnone : ∀ t : State, { relinked l t with access := none } = relinked l { t with access := none } := fun _ => rfl
  cases ha : s.access with
  | none => rw [settleHeld_of_none ha, settleHeld_of_none (s := relinked l s) ha]
  | some access =>
    cases access with
    | read u a n =>
      rw [settleHeld_read ha, settleHeld_read (s := relinked l s) ha]
      have hrequest : (relinked l s).request u = s.request u := rfl
      have haccess : (relinked l s).access = s.access := rfl
      simp only [answerHeldRead, haccess, hrequest, ha]
      cases s.request u with
      | none => rfl
      | some r =>
        dsimp only
        split
        · exact (blind_answer u r _ _ a).relinked l { s with access := none }
        · rfl
    | write a v n =>
      have honline : (relinked l s).online (relinked l s).settings.windowStation = s.online s.settings.windowStation := rfl
      have hspace : (relinked l s).postedSpace = s.postedSpace := rfl
      rw [settleHeld_write ha, settleHeld_write (s := relinked l s) ha, honline, hspace, hnone]
      split
      · split
        · exact ((blind_openEntryFor a v).comp blind_closeOpen).relinked l { s with access := none }
        · rfl
      · exact (blind_dropWrite a).relinked l { s with access := none }

/-! ### The end of the last exchange -/

/-- The end of an exchange in DRAINING, compared with the same happening in UP. -/
theorem draining_settled (hl : s.link = .draining) (hx : s.exchange ≠ none) (hc : MayEndExchange c) {u : State}
    (hexec : exec c (relinked .up s) = .next u) :
    (u.exchange ≠ none ∧ exec c s = .next (relinked .draining u)) ∨
      (u.exchange = none ∧ exec c s = .next (drain (relinked .draining u)) ∧ (FaultsKept s → u.dropped ≤ 255)) := by
  obtain ⟨x, hx⟩ := Option.ne_none_iff_exists'.mp hx
  rcases ending_cases hc hx with ⟨y, hy⟩ | ⟨f, hf, houtcome, hend⟩
  · have hu := hexec.symm.trans (hy ⟨.up, s.access, s.portWaiting⟩)
    cases hu
    exact .inl ⟨nofun, (hy ⟨s.link, s.access, s.portWaiting⟩).trans (by rw [← hl]; rfl)⟩
  · have hglink : (f (idle s)).link = .draining := (hf.keeps (idle s)).1.trans hl
    have hself : relinked .draining (settleHeld (f (idle s))) = settleHeld (f (idle s)) := by
      rw [← hglink, ← (frame_settleHeld (f (idle s))).link]
      rfl
    have hup : endExchange x f (relinked .up s) = relinked .up (settleHeld (f (idle s))) := by
      refine (endExchange_of_not_draining (s := relinked .up s) hf nofun).trans ?_
      rw [show idle (relinked .up s) = relinked .up (idle s) from rfl, hf.relinked, settleHeld_relinked]
      exact advancePass_of_up rfl
    have hu := hexec.symm.trans ((hend ⟨.up, s.access, s.portWaiting⟩).trans (congrArg _ hup))
    cases hu
    have hsettled : Outcome s (settleHeld (f (idle s))) x := houtcome.effects effects_settleHeld
    have hdrain : endExchange x f s = drain (settleHeld (f (idle s))) :=
      endExchange_draining ((frame_settleHeld _).link.trans hglink) hsettled.idle
    refine .inr ⟨hsettled.idle, (hend ⟨s.link, s.access, s.portWaiting⟩).trans (congrArg _ ?_), fun hk => ?_⟩
    · exact hdrain.trans (congrArg drain hself.symm)
    · exact (hsettled.tables.faults hk).2.1

/-- Settles O23: the drain's own row, and the drain after the last exchange, by `ending_cases` in DRAINING and in UP. -/
theorem drainEndFinishesAllWork : Obligations.DrainEndFinishesAllWork := by
  refine ⟨fun s hl hx hk => ⟨drain s, congrArg _ (drainIfIdle_of_draining hl hx), drained_drain hk.2.1⟩,
    fun s u c hl hx hk hc hexec => ?_⟩
  rcases draining_settled hl hx hc hexec with ⟨hu, hs⟩ | ⟨hu, hs, hdropped⟩
  · exact ⟨fun _ => hs, fun h => absurd h hu⟩
  · exact ⟨fun h => absurd hu h, fun _ => ⟨_, hs, drained_drain (s := relinked .draining u) (hdropped hk)⟩⟩

end Sys2Proof.Proofs
end

section
/-! PROOFS. No effect of a host access depends on the accesses that wait behind it (R183). -/

namespace Sys2Proof.Proofs

open Sys2Proof.Machine Sys2Proof.Claims

variable {s : State} {a : HostAccess} {rest : List HostAccess} {f g : State → State}

/-- The state with other accesses waiting. -/
def requeued (w : List HostAccess) (s : State) : State := { s with portWaiting := w }

/-- An operation that neither reads nor changes the waiting accesses. -/
def Queueless (f : State → State) : Prop := ∀ w s, f (requeued w s) = requeued w (f s)

theorem Blind.queueless (hf : Blind f) : Queueless f := by
  intro w s
  obtain ⟨hlink, haccess, -⟩ := hf.keeps s
  refine (hf ⟨s.link, s.access, w⟩ s).trans ?_
  rw [masked, ← hlink, ← haccess]
  rfl

theorem Queueless.comp (hg : Queueless g) (hf : Queueless f) : Queueless fun s => g (f s) := fun w s =>
  (congrArg g (hf w s)).trans (hg w (f s))

/-! ### The drain and the link commands -/

theorem queueless_endHeldRead : Queueless endHeldRead := by
  intro w s
  have haccess : (requeued w s).access = s.access := rfl
  simp only [endHeldRead, haccess]
  cases s.access with
  | none => rfl
  | some access => cases access <;> rfl

theorem queueless_drain : Queueless drain := by
  intro w s
  have hports : s.unfinishedPorts.foldl drainPort (requeued w s) = requeued w (s.unfinishedPorts.foldl drainPort s) :=
    (blind_foldl (f := drainPort) (fun u => blind_completeRequest u .linkDown) _).queueless w s
  have hposted : ∀ t : State, t.postedInOrder.foldl drainPosted (requeued w t) =
      requeued w (t.postedInOrder.foldl drainPosted t) := fun t =>
    (blind_foldl (f := drainPosted) (fun p => blind_freePosted p (some .linkDown)) _).queueless w t
  have hrows : ∀ t : State, { requeued w t with requests := tabulate fun u => windowRowFreed ((requeued w t).request u) } =
      requeued w { t with requests := tabulate fun u => windowRowFreed (t.request u) } := fun _ => rfl
  have hunfinished : (requeued w s).unfinishedPorts = s.unfinishedPorts := rfl
  have horder : ∀ t : State, (requeued w t).postedInOrder = t.postedInOrder := fun _ => rfl
  simp only [drain, hunfinished, hports, hrows, horder, hposted, queueless_endHeldRead w _]
  rfl

theorem queueless_drainIfIdle : Queueless drainIfIdle := by
  intro w s
  have hidle : (requeued w s).link = s.link ∧ (requeued w s).exchange = s.exchange := ⟨rfl, rfl⟩
  simp only [drainIfIdle, hidle]
  split
  · exact queueless_drain w s
  · rfl

theorem queueless_linkStart : Queueless linkStart := by
  intro w s
  have hread : (requeued w s).link = s.link ∧ (requeued w s).settings = s.settings := ⟨rfl, rfl⟩
  simp only [linkStart, hread]
  split
  · split <;> rfl
  · rfl

theorem queueless_linkStop : Queueless linkStop := by
  intro w s
  have hlink : (requeued w s).link = s.link := rfl
  simp only [linkStop, hlink]
  cases s.link with
  | down | draining => rfl
  | enumerating | up => exact queueless_drainIfIdle w ({ s with link := .draining }.setResult .accepted)

/-! ### The station commands -/

theorem queueless_withStation {f : StationId → State → State} (h : ∀ i, Queueless (f i)) : Queueless (withStation f) := by
  intro w s
  have hparameter : (requeued w s).parameter = s.parameter := rfl
  simp only [withStation, hparameter]
  split
  · rfl
  · exact h _ w s

theorem blind_cancelEntry (u : Tag) : Blind (cancelEntry u) := by
  intro k s
  simp only [cancelEntry, request_masked]
  cases s.request u with
  | none => rfl
  | some r =>
    dsimp only
    split
    · exact blind_completeRequest u .cancelled k s
    · exact blind_completeRequest u .cancelled k s
    all_goals rfl

theorem blind_flushPosted (p : PostedIndex) : Blind (flushPosted p) := by
  intro k s
  simp only [flushPosted, postedEntry_masked]
  cases s.postedEntry p with
  | none => rfl
  | some e =>
    dsimp only
    split
    · rfl
    · exact blind_freePosted p _ k s

theorem blind_flushMember (m : EntryRef) : Blind fun s => flushMember s m := by
  cases m with
  | request u => exact blind_cancelEntry u
  | posted p => exact blind_flushPosted p

theorem queueless_stationFlush : Queueless stationFlush :=
  queueless_withStation fun i w s =>
    ((blind_setResult .accepted).comp (blind_foldl blind_flushMember (s.station i).queue)).queueless w s

theorem queueless_stationRejoin : Queueless stationRejoin :=
  queueless_withStation fun i w s => by
    have hread : (requeued w s).link = s.link ∧ (requeued w s).station i = s.station i := ⟨rfl, rfl⟩
    simp only [hread]
    split
    · split <;> rfl
    · rfl

/-! ### The request and report commands -/

theorem blind_accepted (n : Nat) : Blind (accepted n) := fun _ _ => rfl

theorem blind_acceptDeferred (r : Request) : Blind (acceptDeferred r) := by
  intro k s
  have hrows : (masked k s).requests = s.requests := rfl
  simp only [acceptDeferred, hrows]
  cases firstFree s.requests <;> rfl

theorem blind_acceptWrite (target : Target) : Blind (acceptWrite target) := by
  intro k s
  have hread : (masked k s).posted = s.posted ∧ (masked k s).staging = s.staging := ⟨rfl, rfl⟩
  simp only [acceptWrite, hread]
  cases firstFree s.posted with
  | none => rfl
  | some p => exact ((blind_markStale target).comp ((blind_accepted p).comp (blind_acceptPosted p _))) k s

theorem blind_acceptStaged : Blind acceptStaged := by
  intro k s
  have hstaging : (masked k s).staging = s.staging := rfl
  simp only [acceptStaged, hstaging]
  split
  · exact blind_acceptWrite _ k s
  · exact blind_acceptWrite _ k s
  · exact blind_acceptDeferred _ k s
  · exact ((blind_markStale _).comp (blind_acceptDeferred _)) k s
  · split
    · exact ((blind_markStale _).comp (blind_acceptDeferred _)) k s
    · rfl
  · rfl

theorem queueless_submit : Queueless submit := by
  intro w s
  have hclose : closeOpen (requeued w s) = requeued w (closeOpen s) := rfl
  have hrefusal : submitRefusal (requeued w (closeOpen s)) = submitRefusal (closeOpen s) := rfl
  simp only [submit, hclose, hrefusal]
  split
  · rfl
  · exact blind_acceptStaged.queueless w _

theorem queueless_cancel : Queueless cancel := by
  intro w s
  have hparameter : (requeued w s).parameter = s.parameter := rfl
  have hrequest : ∀ u, (requeued w s).request u = s.request u := fun _ => rfl
  simp only [cancel, hparameter, hrequest]
  cases tagAt s.parameter.toNat with
  | none => rfl
  | some u =>
    dsimp only
    cases s.request u with
    | none => rfl
    | some r =>
      have hcancel := ((blind_setResult .accepted).comp (blind_cancelEntry u)).queueless w s
      dsimp only
      cases r.origin with
      | window => rfl
      | port =>
        dsimp only
        cases r.state with
        | done | delivered => rfl
        | queued | active | waiting | parked => exact hcancel

theorem queueless_release : Queueless release := by
  intro w s
  have hparameter : (requeued w s).parameter = s.parameter := rfl
  have hrequest : ∀ u, (requeued w s).request u = s.request u := fun _ => rfl
  simp only [release, hparameter, hrequest]
  cases tagAt s.parameter.toNat with
  | none => rfl
  | some u =>
    dsimp only
    cases s.request u with
    | none => rfl
    | some r =>
      dsimp only
      split <;> rfl

theorem queueless_nextCompletion : Queueless nextCompletion := by
  intro w s
  have hlist : (requeued w s).completionList = s.completionList := rfl
  have hrequest : ∀ u, (requeued w s).request u = s.request u := fun _ => rfl
  simp only [nextCompletion, hlist, hrequest]
  cases s.completionList with
  | nil => rfl
  | cons u rest =>
    dsimp only
    cases s.request u with
    | none => rfl
    | some r =>
      dsimp only
      cases r.state <;> rfl

theorem queueless_nextAttention : Queueless nextAttention := by
  intro w s
  have hread : (requeued w s).attention = s.attention := rfl
  simp only [nextAttention, hread]
  split <;> rfl

theorem queueless_nextFault : Queueless nextFault := by
  intro w s
  have hread : (requeued w s).faults = s.faults := rfl
  simp only [nextFault, hread]
  split <;> rfl

theorem queueless_commandEffect (c : HostCommand) : Queueless (commandEffect c) := by
  cases c with
  | submit => exact queueless_submit
  | cancel => exact queueless_cancel
  | release => exact queueless_release
  | nextCompletion => exact queueless_nextCompletion
  | nextAttention => exact queueless_nextAttention
  | nextFault => exact queueless_nextFault
  | linkStart => exact queueless_linkStart
  | linkStop => exact queueless_linkStop
  | stationHold | stationResume => exact queueless_withStation fun _ _ _ => rfl
  | stationFlush => exact queueless_stationFlush
  | stationRejoin => exact queueless_stationRejoin
  | stageClear | controllerReset => exact fun _ _ => rfl

theorem queueless_commandWrite (code : Byte) : Queueless (commandWrite code) := by
  intro w s
  unfold commandWrite
  split
  · next c _ => exact queueless_commandEffect c w { s with command := commandCode c }
  · rfl

/-! ### The aperture -/

theorem queueless_createWindow (o : BitVec 4) : Queueless (createWindow o) := by
  intro w s
  have hread : (requeued w s).requests = s.requests := rfl
  simp only [createWindow, hread]
  split <;> rfl

theorem queueless_miss (o : BitVec 4) : Queueless (miss o) := by
  intro w s
  have hread : (requeued w s).link = s.link ∧ (requeued w s).settings = s.settings ∧
      (requeued w s).needsReclaim = s.needsReclaim ∧ (requeued w s).reclaimTarget = s.reclaimTarget ∧
      ∀ i, (requeued w s).online i = s.online i := ⟨rfl, rfl, rfl, rfl, fun _ => rfl⟩
  simp only [miss, hread]
  split
  · rfl
  · split
    · rfl
    · split
      · split
        · rfl
        · exact ((queueless_createWindow o).comp (blind_setDiscarded.comp (blind_freeRequest _)).queueless) w s
      · exact queueless_createWindow o w s

theorem queueless_apertureRead (o : BitVec 4) : Queueless (apertureRead o) := by
  intro w s
  have hclose : closeOpen (requeued w s) = requeued w (closeOpen s) := rfl
  have hread : ∀ t : State, (requeued w t).settings = t.settings ∧ (∀ a, (requeued w t).windowMatch a = t.windowMatch a) ∧
      ∀ u, (requeued w t).request u = t.request u := fun _ => ⟨rfl, fun _ => rfl, fun _ => rfl⟩
  simp only [apertureRead, hclose, hread]
  split
  · exact queueless_miss o w _
  · split
    · rfl
    · split
      · rfl
      · split
        · exact (blind_answer _ _ _ _ _).queueless w _
        · exact (blind_answer _ _ _ _ _).queueless w _
        all_goals rfl

theorem queueless_openOrHold (a v : Word) : Queueless (openOrHold a v) := by
  intro w s
  have hclose : closeOpen (requeued w s) = requeued w (closeOpen s) := rfl
  have hread : (requeued w (closeOpen s)).postedSpace = (closeOpen s).postedSpace := rfl
  simp only [openOrHold, hclose, hread]
  split
  · exact (blind_openEntryFor a v).queueless w _
  · rfl

theorem queueless_apertureWrite (o : BitVec 4) (v : Word) : Queueless (apertureWrite o v) := by
  intro w s
  have hread : (requeued w s).link = s.link ∧ (requeued w s).settings = s.settings ∧
      (requeued w s).openEntry = s.openEntry ∧ (∀ p, (requeued w s).postedEntry p = s.postedEntry p) ∧
      (∀ e a, (requeued w s).extends e a = s.extends e a) ∧ ∀ i, (requeued w s).online i = s.online i :=
    ⟨rfl, rfl, rfl, fun _ => rfl, fun _ _ => rfl, fun _ => rfl⟩
  simp only [apertureWrite, hread]
  split
  · exact (blind_dropWrite _).queueless w s
  · split
    · exact queueless_openOrHold _ v w s
    · split
      · exact queueless_openOrHold _ v w s
      · split
        · rfl
        · exact queueless_openOrHold _ v w s

/-! ### Every access -/

theorem queueless_plainWrite (location : BitVec 6) (v : Word) : Queueless (plainWrite location v) := by
  intro w s
  unfold plainWrite
  split
  case h_9 =>
    unfold stationSelectWrite
    split <;> rfl
  all_goals rfl

theorem queueless_writeLocation (location : BitVec 6) (v : Word) : Queueless (writeLocation location v) := by
  intro w s
  unfold writeLocation
  split
  · exact queueless_commandWrite _ w s
  · have hread : (requeued w s).staging = s.staging := rfl
    simp only [stageDataWrite, hread]
    split <;> rfl
  · rfl
  · rfl
  · rfl
  · unfold windowStationWrite
    split <;> rfl
  · rfl
  · rfl
  · have hread : (requeued w s).link = s.link := rfl
    simp only [timebaseWrite, hread]
    split <;> rfl
  · split
    · exact queueless_apertureWrite _ v w s
    · exact queueless_plainWrite location v w s

theorem queueless_takeAccess (a : HostAccess) : Queueless (takeAccess a) := by
  cases a with
  | write location v => exact queueless_writeLocation location v
  | read location =>
    intro w s
    simp only [takeAccess, readAccess]
    split
    · rfl
    · split
      · exact queueless_apertureRead _ w s
      · rfl

/-! ### The port -/

theorem waitAsserted_iff : s.waitAsserted = true ↔ s.access ≠ none ∨ s.portWaiting ≠ [] := by
  simp only [State.waitAsserted, Bool.or_eq_true, Bool.not_eq_true', List.isEmpty_eq_false_iff, Option.isSome_iff_ne_none]

theorem step_of_waiting (hp : s.pending = []) (hr : s.resetInput = false) (ha : s.access = none)
    (hw : s.portWaiting = a :: rest) : step s = .next (takeAccess a { s with portWaiting := rest }) := by
  have htakes : s.takesWaiting = true := by simp [State.takesWaiting, hr, ha, hw]
  simp only [step, hp, whenIdle, htakes, if_true, takeWaiting, hw]

/-- Settles O4: an access at the port in each of its states, and the taking of a waiting one, which is blind to the rest. -/
theorem hostAccessesWaitBehindAHold : Obligations.HostAccessesWaitBehindAHold := by
  refine ⟨fun c a s h => ⟨fun hr => ?_, fun hr hbusy => ?_⟩, fun s => waitAsserted_iff,
    fun c s t h hpin hexec => (sameReports_exec hexec h hpin).portWaiting, fun s a rest hp hr ha hw =>
      ⟨step_of_waiting hp hr ha hw, fun c hc => ⟨takeAccess a { s with portWaiting := [] }, ?_, ?_⟩⟩⟩
  · rw [exec_of_access h, onPort_reset hr]
  · rw [exec_of_access h, onPort_busy hr hbusy]
  · exact exec_of_access_ready hc ⟨hr, ha, rfl⟩
  · exact (step_of_waiting hp hr ha hw).trans
      (congrArg _ (queueless_takeAccess a rest { s with portWaiting := [] }))

end Sys2Proof.Proofs
end

section
/-! PROOFS. STATION-FLUSH (R49, R106): the members of one queue, each taken as CANCEL takes it. -/

namespace Sys2Proof.Proofs

open Sys2Proof.Machine Sys2Proof.Claims

variable {s t : State} {k : Fate} {members : List EntryRef} {i j : StationId} {x : EntryRef} {u : Tag} {p : PostedIndex}
variable {r : Request} {e : Posted}

/-! ### The queue of one station -/

theorem leftBehind_eq_filter (target : Target) {queue : List EntryRef} (h : queue.Nodup) :
    leftBehind k target members queue = queue.filter fun x => !(decide (x ∈ members) && decide (k.leaves x = some target)) := by
  induction members generalizing queue with
  | nil => exact (List.filter_eq_self.mpr (by simp)).symm
  | cons y members ih =>
    show leftBehind k target members (if k.leaves y = some target then queue.erase y else queue) = _
    by_cases hy : k.leaves y = some target
    · rw [if_pos hy, ih (h.erase y), h.erase_eq_filter, List.filter_filter]
      refine List.filter_congr fun x _ => ?_
      by_cases hx : x = y
      · subst hx; simp [hy]
      · simp [hx]
    · rw [if_neg hy, ih h]
      refine List.filter_congr fun x _ => ?_
      by_cases hx : x = y
      · subst hx; simp [hy]
      · simp [hx]

/-- A station's record when some members of its queue have been taken. -/
theorem Takes.station_eq (h : Takes k s members t) (hnodup : (s.station i).queue.Nodup) :
    t.station i = { s.station i with
      queue := (s.station i).queue.filter fun x => !(decide (x ∈ members) && decide (k.leaves x = some (.station i))) } := by
  rw [← leftBehind_eq_filter _ hnodup, ← h.queue i]
  exact congrArg (fun st : Station => { st with queue := (t.station i).queue }) (h.station i)

/-- A queue which no member leaves, and with it its station, is as before. -/
theorem Takes.station_same (h : Takes k s members t) (hleaves : ∀ x ∈ members, k.leaves x ≠ some (.station i)) :
    t.station i = s.station i := by
  have hqueue : (t.station i).queue = (s.station i).queue := by
    rw [h.queue i]
    clear h
    induction members with
    | nil => rfl
    | cons y members ih =>
      show leftBehind k _ members (if k.leaves y = some (.station i) then _ else _) = _
      rw [if_neg (hleaves y List.mem_cons_self)]
      exact ih fun x hx => hleaves x (List.mem_cons_of_mem y hx)
  rw [← h.station i, ← hqueue]

/-- What the taking of members leaves alone. -/
theorem Takes.rest (h : Takes k s members t) (hleaves : ∀ x ∈ members, k.leaves x ≠ some .broadcast) :
    { t with
      requests := s.requests, posted := s.posted, stations := s.stations, completionList := s.completionList
      faults := s.faults, dropped := s.dropped } =
      { s with latched := { s.latched with window := t.latched.window } } := by
  have hlatched : t.latched = { s.latched with window := t.latched.window } := by rw [h.latched]
  refine (congrArg (fun d : State => { d with
    requests := s.requests, posted := s.posted, stations := s.stations, completionList := s.completionList
    faults := s.faults, dropped := s.dropped }) h.frame).trans ?_
  dsimp only
  rw [h.broadcast hleaves, ← hlatched]

theorem request_mem_queue (hq : QueuesExact s) :
    .request u ∈ (s.station i).queue ↔ ∃ r, s.request u = some r ∧ r.station = i ∧ r.unfinished = true := by
  rw [hq.1 i u, Option.any_eq_true]
  simp only [Bool.and_eq_true, decide_eq_true_eq]
  exact exists_congr fun r => and_congr_right' and_comm

theorem posted_mem_queue (hq : QueuesExact s) :
    .posted p ∈ (s.station i).queue ↔ ∃ e, s.postedEntry p = some e ∧ e.target = .station i := by
  rw [hq.2.1 i p, Option.any_eq_true]
  simp only [decide_eq_true_eq]

theorem nodup_queue (hq : QueuesExact s) : (s.station i).queue.Nodup := hq.2.2.2.1 i

/-! ### The fate of a member -/

/-- The row an unfinished entry leaves (R29). -/
def flushedRow (g : Settings) (r : Request) : Option Request :=
  match r.state with
  | .queued | .waiting _ => completedRow g r .cancelled
  | .active => some { r with cancelPending := true }
  | .parked part =>
    some { r with cancelPending := true, abandonPending := true, state := .parked { part with collect := .stopped } }
  | .done _ | .delivered _ => some r

/-- The row a posted entry leaves (R106). -/
def flushedPosted (e : Posted) : Option Posted := if e.state = .active then some { e with flushPending := true } else none

/-- Whether an entry completes at once and latches WINDOW (R150). -/
def flushLatches (r : Request) : Bool :=
  match r.origin, r.state with
  | .window w, .queued => !w.held
  | .window w, .waiting _ => !w.held
  | _, _ => false

/-- What STATION-FLUSH does to the members of a station's queue. -/
def flushFate (s : State) (i : StationId) : Fate where
  request u := (s.request u).bind (flushedRow s.settings)
  posted p := (s.postedEntry p).bind flushedPosted
  tag := flushedTag s
  record := flushedRecord s
  latches
    | .request u => (s.request u).any flushLatches
    | .posted _ => false
  leaves x := if survivesFlush s x then none else some (.station i)

theorem flushLatches_iff : flushLatches r = true ↔
    ∃ w n, r.origin = .window w ∧ w.held = false ∧ (r.state = .queued ∨ r.state = .waiting n) := by
  unfold flushLatches
  cases r.origin with
  | port => simp
  | window w => cases r.state <;> simp

/-- A member that is a request entry. -/
theorem takes_flushRequest (hr : s.request u = some r) (hrow : t.request u = some r) (hi : r.station = i)
    (hset : t.settings = s.settings) (hu : r.unfinished = true) :
    Takes (flushFate s i) t [.request u] (cancelEntry u t) := by
  have hrecord : (flushFate s i).record (.request u) = none := rfl
  have hcompletes (hstate : flushedRow s.settings r = completedRow s.settings r .cancelled)
      (htag : flushedTag s (.request u) = if r.origin = .port then some u else none)
      (hlatch : flushLatches r = match r.origin with
        | .port => false
        | .window part => !part.held)
      (hleaves : survivesFlush s (.request u) = false) :
      Takes (flushFate s i) t [.request u] (completeRequest u .cancelled t) := by
    rw [completeRequest_eq_completed .cancelled hrow hu]
    refine takes_completed ?_ htag hrecord ?_ ?_
    · simp only [flushFate, hr, Option.bind_some, hstate, hset]
    · show (s.request u).any flushLatches = _
      rw [hr]
      exact hlatch
    · simp [flushFate, hleaves, hi]
  simp only [cancelEntry, hrow]
  cases hstate : r.state with
  | queued | waiting =>
    refine hcompletes (by simp [flushedRow, hstate]) ?_ ?_ (by simp [survivesFlush, hr, hstate])
    · cases ho : r.origin <;> simp [flushedTag, hr, ho, hstate]
    · cases ho : r.origin <;> simp [flushLatches, ho, hstate]
  | active | parked =>
    refine takes_putRequest (by simp [flushFate, hr, flushedRow, hstate]) ?_ hrecord ?_
      (by simp [flushFate, survivesFlush, hr, hstate])
    · cases ho : r.origin <;> simp [flushFate, flushedTag, hr, ho, hstate]
    · cases ho : r.origin <;> simp [flushFate, flushLatches, hr, ho, hstate]
  | done | delivered => simp [Request.unfinished, hstate] at hu

/-- A member that is a posted entry. -/
theorem takes_flushPosted (he : s.postedEntry p = some e) (hrow : t.postedEntry p = some e) (hi : e.target = .station i) :
    Takes (flushFate s i) t [.posted p] (flushPosted p t) := by
  simp only [flushPosted, hrow]
  by_cases hactive : e.state = .active
  · rw [if_pos hactive]
    exact takes_putPosted (by simp [flushFate, he, flushedPosted, hactive]) rfl
      (by simp [flushFate, flushedRecord, he, hactive]) rfl (by simp [flushFate, survivesFlush, he, hactive])
  · rw [if_neg hactive]
    exact takes_freePosted hrow (by simp [flushFate, he, flushedPosted, hactive]) rfl
      (by simp [flushFate, flushedRecord, he, hactive]) rfl (by simp [flushFate, survivesFlush, he, hactive, hi])

theorem takes_flush (hq : QueuesExact s) (i : StationId) :
    Takes (flushFate s i) s (s.station i).queue ((s.station i).queue.foldl flushMember s) := by
  refine takes_foldl (s₀ := s) (fun x hx t hrow hset => ?_) (nodup_queue hq) (fun x _ => by cases x <;> rfl) rfl
  cases x with
  | request u =>
    obtain ⟨r, hr, hi, hu⟩ := (request_mem_queue hq).mp hx
    exact takes_flushRequest hr (Eq.trans hrow hr) hi hset hu
  | posted p =>
    obtain ⟨e, he, hi⟩ := (posted_mem_queue hq).mp hx
    exact takes_flushPosted he (Eq.trans hrow he) hi

theorem flushFate_leaves : (flushFate s i).leaves x = some (.station j) ↔ survivesFlush s x = false ∧ i = j := by
  cases h : survivesFlush s x <;> simp [flushFate, h]

theorem flushFate_leaves_broadcast : (flushFate s i).leaves x ≠ some .broadcast := by
  cases h : survivesFlush s x <;> simp [flushFate, h]

theorem filter_flushFate (queue : List EntryRef) :
    (queue.filter fun x => !(decide (x ∈ queue) && decide ((flushFate s i).leaves x = some (.station i)))) =
      queue.filter (survivesFlush s) := by
  refine List.filter_congr fun x hx => ?_
  have hleaves : (flushFate s i).leaves x = some (.station i) ↔ survivesFlush s x = false :=
    flushFate_leaves.trans (and_iff_left rfl)
  simp only [hx, decide_true, Bool.true_and, hleaves]
  cases survivesFlush s x <;> rfl

theorem any_flushLatches (hq : QueuesExact s) : (s.station i).queue.any (flushFate s i).latches = true ↔
    ∃ u r w n, s.request u = some r ∧ r.station = i ∧ r.origin = .window w ∧ w.held = false ∧
      (r.state = .queued ∨ r.state = .waiting n) := by
  rw [List.any_eq_true]
  constructor
  · rintro ⟨x, hx, hlatch⟩
    cases x with
    | posted p => cases hlatch
    | request u =>
      obtain ⟨r, hr, hi, -⟩ := (request_mem_queue hq).mp hx
      obtain ⟨w, n, ho, hheld, hstate⟩ := flushLatches_iff.mp (show flushLatches r = true by simpa [flushFate, hr] using hlatch)
      exact ⟨u, r, w, n, hr, hi, ho, hheld, hstate⟩
  · rintro ⟨u, r, w, n, hr, hi, ho, hheld, hstate⟩
    refine ⟨.request u, (request_mem_queue hq).mpr ⟨r, hr, hi, ?_⟩, ?_⟩
    · rcases hstate with h | h <;> simp [Request.unfinished, h]
    · simpa [flushFate, hr] using flushLatches_iff.mpr ⟨w, n, ho, hheld, hstate⟩

/-- Settles O25: the members of the queue, each by its fate, and the rest of the state by `Takes`. -/
theorem stationFlushEndsUnfinishedWork : Obligations.StationFlushEndsUnfinishedWork := by
  intro s i hready hq hk hi
  have hcommand : stationFlush (withCode s 0x42#8) =
      (((withCode s 0x42#8).station i).queue.foldl flushMember (withCode s 0x42#8)).setResult .accepted := by
    have hat : stationAt (withCode s 0x42#8).parameter.toNat = some i := stationAt_eq_some.mpr hi
    simp only [stationFlush, withStation, hat]
  have h : Takes (flushFate (withCode s 0x42#8) i) (withCode s 0x42#8) (s.station i).queue
      ((s.station i).queue.foldl flushMember (withCode s 0x42#8)) := takes_flush (s := withCode s 0x42#8) hq i
  refine ⟨_, (exec_onPort_ready (runCommand .stationFlush) hready rfl).trans (congrArg _ hcommand), ?_⟩
  generalize hd : (s.station i).queue.foldl flushMember (withCode s 0x42#8) = d at h
  have hmember : ∀ u r, s.request u = some r → (.request u ∈ (s.station i).queue ↔ r.station = i ∧ r.unfinished = true) := by
    intro u r hr
    rw [request_mem_queue hq]
    simp [hr]
  have hother : ∀ u r, s.request u = some r → r.station ≠ i ∨ r.unfinished = false → d.request u = some r := by
    intro u r hr hnot
    rw [h.request, if_neg (by rw [hmember u r hr]; rcases hnot with h | h <;> simp [h])]
    exact hr
  have hrow : ∀ u r, s.request u = some r → r.station = i → r.unfinished = true → d.request u = flushedRow s.settings r := by
    intro u r hr hi hu
    rw [h.request, if_pos ((hmember u r hr).mpr ⟨hi, hu⟩)]
    show (s.request u).bind _ = _
    rw [hr]
    rfl
  rw [show ((withCode s 0x42#8).station i).queue.foldl flushMember (withCode s 0x42#8) = d from hd]
  refine ⟨fun u hu => ?_, fun u r hr hnot => ?_, fun u r n hr hi hstate => ?_, fun u r hr hi hstate => ?_,
    fun u r part hr hi hstate => ?_, fun p hp => ?_, fun p e he hne => ?_, fun p e he hi => ?_, ?_, fun j hj => ?_,
    h.tags, h.faults hk.2.1, h.dropped hk.2.1, ?_, ?_⟩
  · refine (h.request u).trans ?_
    rw [if_neg fun hmem => ?_]
    · exact hu
    · obtain ⟨r, hr, -⟩ := (request_mem_queue hq).mp hmem
      exact absurd (hu.symm.trans hr) nofun
  · refine hother u r hr (hnot.imp_right fun h => ?_)
    simpa using mt unfinished_iff.mp h
  · refine (hrow u r hr hi (by rcases hstate with h | h <;> simp [Request.unfinished, h])).trans ?_
    rcases hstate with h | h <;> simp [flushedRow, h]
  · exact (hrow u r hr hi (by simp [Request.unfinished, hstate])).trans (by simp [flushedRow, hstate])
  · exact (hrow u r hr hi (by simp [Request.unfinished, hstate])).trans (by simp [flushedRow, hstate])
  · refine (h.posted p).trans ?_
    rw [if_neg fun hmem => ?_]
    · exact hp
    · obtain ⟨e, he, -⟩ := (posted_mem_queue hq).mp hmem
      exact absurd (hp.symm.trans he) nofun
  · refine (h.posted p).trans ?_
    rw [if_neg fun hmem => ?_]
    · exact he
    · obtain ⟨q, hq', hi⟩ := (posted_mem_queue hq).mp hmem
      cases he.symm.trans hq'
      exact hne hi
  · refine (h.posted p).trans ?_
    rw [if_pos ((posted_mem_queue hq).mpr ⟨e, he, hi⟩)]
    show (s.postedEntry p).bind _ = _
    rw [he]
    rfl
  · exact (h.station_eq (i := i) (nodup_queue (s := withCode s 0x42#8) hq)).trans
      (congrArg (fun queue => { s.station i with queue := queue }) (filter_flushFate (s := withCode s 0x42#8) _))
  · exact h.station_same fun x _ hleaves => hj (flushFate_leaves.mp hleaves).2.symm
  · show d.latched.window = true ↔ _
    rw [h.latched]
    show (s.latched.window || (s.station i).queue.any (flushFate s i).latches) = true ↔ _
    rw [Bool.or_eq_true, any_flushLatches hq]
  · exact congrArg (fun d : State => { d with result := .accepted }) (h.rest fun _ _ => flushFate_leaves_broadcast)

end Sys2Proof.Proofs
end

section
/-! PROOFS. The LOST transition (R38, R30, R107): the owner of the failed exchange and then the members of the queue. -/

namespace Sys2Proof.Proofs

open Sys2Proof.Machine Sys2Proof.Claims

variable {s t : State} {owner : Owner} {members queue : List EntryRef} {i j : StationId} {x y : EntryRef} {u : Tag}
variable {p : PostedIndex} {r : Request} {e : Posted}

/-! ### The order in which the members are taken -/

theorem mem_lostOrder : x ∈ lostOrder owner queue ↔ x ∈ queue := by
  have hfirst : ∀ y, y ∈ queue → (x ∈ y :: queue.erase y ↔ x ∈ queue) := fun y hy => by
    rw [(List.perm_cons_erase hy).mem_iff]
  cases owner with
  | station => exact Iff.rfl
  | request u =>
    simp only [lostOrder]
    split
    next h => exact hfirst _ h
    next => exact Iff.rfl
  | posted p =>
    simp only [lostOrder]
    split
    next h => exact hfirst _ h
    next => exact Iff.rfl

theorem lostOrder_owner (h : y ∈ queue) : lostOrder (ownerOf y) queue = y :: queue.erase y := by
  cases y <;> exact if_pos h

/-! ### The fate of a member -/

/-- Whether an entry latches WINDOW as its station is lost: it is a window entry not held, and not a stale owner, which is
freed instead of completed (R150, R152). -/
def lostLatches (owner : Owner) (u : Tag) (r : Request) : Bool :=
  match r.origin with
  | .port => false
  | .window w => !w.held && !(decide (owner = .request u) && w.stale)

/-- What the LOST transition does to the members of the station's queue. -/
def lostFate (s : State) (owner : Owner) (i : StationId) : Fate where
  request u := (s.request u).bind (lostRow s owner u)
  posted _ := none
  tag := lostTag s
  record := lostRecord s owner
  latches
    | .request u => (s.request u).any (lostLatches owner u)
    | .posted _ => false
  leaves _ := some (.station i)

theorem lostLatches_iff : lostLatches owner u r = true ↔
    ∃ w, r.origin = .window w ∧ w.held = false ∧ ¬(owner = .request u ∧ w.stale = true) := by
  unfold lostLatches
  cases r.origin with
  | port => simp
  | window w => simp [Decidable.imp_iff_not_or]

theorem lostRow_other (h : owner ≠ .request u) : lostRow s owner u r = completedRow s.settings r .stationLost := if_neg h

theorem lostRow_owner :
    lostRow s (.request u) u r = completedRow s.settings (r.mapModify ModifyPart.failed) .noResponse := by
  refine (if_pos rfl).trans (congrArg (completedRow s.settings · .noResponse) ?_)
  cases hk : r.kind with
  | read | confirmedWrite => simp only [Request.mapModify, hk]; cases r; cases hk; rfl
  | modify m =>
    simp only [Request.mapModify, hk, ModifyPart.failed]
    cases m.phase <;> rfl

theorem lostTag_eq (hr : s.request u = some r) : lostTag s (.request u) = if r.origin = .port then some u else none := by
  simp only [lostTag, hr]

theorem ownerOf_injective (h : ownerOf x = ownerOf y) : x = y := by
  cases x <;> cases y <;> cases h <;> rfl

theorem mapModify_outside (f : ModifyPart → ModifyPart) (r : Request) :
    (r.mapModify f).origin = r.origin ∧ (r.mapModify f).station = r.station ∧ (r.mapModify f).unfinished = r.unfinished := by
  unfold Request.mapModify
  split <;> exact ⟨rfl, rfl, rfl⟩

theorem stale_iff : r.stale = true ↔ ∃ w, r.origin = .window w ∧ w.stale = true := by
  unfold Request.stale
  cases r.origin <;> simp

/-- A member that did not own the failed exchange. -/
theorem takes_loseMember (hq : QueuesExact s) (hx : x ∈ (s.station i).queue) (howner : owner ≠ ownerOf x)
    (hrow : SameRow s t x) (hset : t.settings = s.settings) : Takes (lostFate s owner i) t [x] (loseMember t x) := by
  cases x with
  | request u =>
    obtain ⟨r, hr, hi, hu⟩ := (request_mem_queue hq).mp hx
    rw [loseMember, completeRequest_eq_completed .stationLost (Eq.trans hrow hr) hu]
    refine takes_completed ?_ (lostTag_eq hr) rfl ?_ (by rw [hi]; rfl)
    · show (s.request u).bind _ = _
      rw [hr, hset]
      exact lostRow_other howner
    · show (s.request u).any _ = _
      rw [hr]
      cases ho : r.origin with
      | port => simp [lostLatches, ho]
      | window w => simp [lostLatches, ho, show owner ≠ .request u from howner]
  | posted p =>
    obtain ⟨e, he, hi⟩ := (posted_mem_queue hq).mp hx
    refine takes_freePosted (Eq.trans hrow he) rfl rfl ?_ rfl (by rw [hi]; rfl)
    show (s.postedEntry p).map _ = _
    rw [he, Option.map_some]
    exact congrArg (fun c => some (postedRecord e c)) (if_neg howner)

/-- The member that owned the failed exchange. -/
theorem takes_loseOwner (hq : QueuesExact s) (hy : y ∈ (s.station i).queue) :
    Takes (lostFate s (ownerOf y) i) s [y] (loseOwner (ownerOf y) s) := by
  cases y with
  | request u =>
    obtain ⟨r, hr, hi, hu⟩ := (request_mem_queue hq).mp hy
    have hfate : (lostFate s (.request u) i).request u =
        completedRow s.settings (r.mapModify ModifyPart.failed) .noResponse := by
      show (s.request u).bind _ = _
      rw [hr]
      exact lostRow_owner
    have hlatch : (lostFate s (.request u) i).latches (.request u) = lostLatches (.request u) u r := by
      show (s.request u).any _ = _
      rw [hr]
      rfl
    obtain ⟨horigin, hstation, hunfinished⟩ := mapModify_outside ModifyPart.failed r
    simp only [ownerOf, loseOwner, hr]
    by_cases hstale : r.stale = true
    · obtain ⟨w, ho, hw⟩ := stale_iff.mp hstale
      rw [if_pos hstale, freeRequest_eq_vacated hr]
      refine takes_vacated (hfate.trans ?_) ((lostTag_eq hr).trans (by simp [ho])) rfl
        (hlatch.trans (by simp [lostLatches, ho, hw])) (by rw [hi]; rfl)
      simp only [completedRow, horigin, ho, hw, if_true]
    · rw [if_neg hstale, updateRequest_of_some hr, completeRequest_putRequest .noResponse (hunfinished.trans hu)]
      refine takes_completed hfate ((lostTag_eq hr).trans (by rw [horigin])) rfl (hlatch.trans ?_)
        (by rw [hstation, hi]; rfl)
      cases ho : r.origin with
      | port => simp [lostLatches, horigin, ho]
      | window w =>
        have hw : w.stale = false := Bool.eq_false_iff.mpr fun h => hstale (stale_iff.mpr ⟨w, ho, h⟩)
        simp [lostLatches, horigin, ho, hw]
  | posted p =>
    obtain ⟨e, he, hi⟩ := (posted_mem_queue hq).mp hy
    refine takes_freePosted he rfl rfl ?_ rfl (by rw [hi]; rfl)
    show (s.postedEntry p).map _ = _
    rw [he, Option.map_some]
    exact congrArg (fun c => some (postedRecord e c)) (if_pos rfl)

theorem takes_loseMembers (hq : QueuesExact s) (hnodup : members.Nodup)
    (hmembers : ∀ x ∈ members, x ∈ (s.station i).queue ∧ owner ≠ ownerOf x ∧ SameRow s t x) (hset : t.settings = s.settings) :
    Takes (lostFate s owner i) t members (members.foldl loseMember t) :=
  takes_foldl (s₀ := s) (fun x hx _ hrow hset => takes_loseMember hq (hmembers x hx).1 (hmembers x hx).2.1 hrow hset)
    hnodup (fun x hx => (hmembers x hx).2.2) hset

/-- The owner is taken first, then the others in queue order. -/
theorem takes_membersLost (hq : QueuesExact s) (howner : ∀ y, owner = ownerOf y → y ∈ (s.station i).queue) :
    Takes (lostFate s owner i) s (lostOrder owner (s.station i).queue) (membersLost i owner s) := by
  have hentry (y : EntryRef) (howns : owner = ownerOf y) :
      Takes (lostFate s owner i) s (lostOrder owner (s.station i).queue) (membersLost i owner s) := by
    have hy := howner y howns
    subst howns
    have hfirst := takes_loseOwner hq hy
    have hqueue : ((loseOwner (ownerOf y) s).station i).queue = (s.station i).queue.erase y :=
      (hfirst.queue i).trans (if_pos rfl)
    rw [lostOrder_owner hy, membersLost, hqueue]
    refine hfirst.cons (takes_loseMembers hq ((nodup_queue hq).erase y) (fun x hx => ?_) hfirst.settings)
    obtain ⟨hne, hx⟩ := ((nodup_queue hq).mem_erase_iff).mp hx
    exact ⟨hx, fun h => hne (ownerOf_injective h.symm), hfirst.sameRow (mt List.mem_singleton.mp hne)⟩
  cases howns : owner with
  | request u => rw [← howns]; exact hentry (.request u) howns
  | posted p => rw [← howns]; exact hentry (.posted p) howns
  | station k =>
    exact takes_loseMembers hq (nodup_queue hq) (fun x hx => ⟨hx, by cases x <;> nofun, by cases x <;> rfl⟩) rfl

theorem any_lostLatches (hq : QueuesExact s) :
    (lostOrder owner (s.station i).queue).any (lostFate s owner i).latches = true ↔
      ∃ u r w, s.request u = some r ∧ r.station = i ∧ Unfinished r ∧ r.origin = .window w ∧ w.held = false ∧
        ¬(owner = .request u ∧ w.stale = true) := by
  rw [List.any_eq_true]
  constructor
  · rintro ⟨x, hx, hlatch⟩
    cases x with
    | posted p => cases hlatch
    | request u =>
      obtain ⟨r, hr, hi, hu⟩ := (request_mem_queue hq).mp (mem_lostOrder.mp hx)
      have hlatches : lostLatches owner u r = true := by simpa [lostFate, hr] using hlatch
      obtain ⟨w, ho, hheld, hstale⟩ := lostLatches_iff.mp hlatches
      exact ⟨u, r, w, hr, hi, unfinished_iff.mp hu, ho, hheld, hstale⟩
  · rintro ⟨u, r, w, hr, hi, hu, ho, hheld, hstale⟩
    refine ⟨.request u, mem_lostOrder.mpr ((request_mem_queue hq).mpr ⟨r, hr, hi, unfinished_iff.mpr hu⟩), ?_⟩
    simpa [lostFate, hr] using lostLatches_iff.mpr ⟨w, ho, hheld, hstale⟩

/-- Settles O47: the members of the queue, each by its fate, and the station's record written over. -/
theorem failedExchangeLosesItsStation : Obligations.FailedExchangeLosesItsStation := by
  intro s x i c hquiet hq hk hx hd hlast hends hrequest hposted
  have hfailed : applyFailed x (idle s) = lostTransition i x.owner (idle s) := by simp only [applyFailed, hd]
  have hexec : exec c s = .next (lostTransition i x.owner (idle s)) :=
    (exec_endsFailed hx hlast hends).trans (congrArg _ ((endExchange_of_quiet (blind_applyFailed x) hquiet).trans hfailed))
  have howner : ∀ y, x.owner = ownerOf y → y ∈ (s.station i).queue := fun y hy => by
    cases y with
    | request u => exact hrequest u hy
    | posted p => exact hposted p hy
  have h : Takes (lostFate (idle s) x.owner i) (idle s) (lostOrder x.owner (s.station i).queue)
      (membersLost i x.owner (idle s)) := takes_membersLost (s := idle s) hq howner
  refine ⟨_, hexec, ?_⟩
  rw [lostTransition_eq]
  generalize membersLost i x.owner (idle s) = d at h
  have hstations : ∀ j st, ({ d with stations := d.stations.set i st } : State).station j = if i = j then st else d.station j :=
    fun j st => vector_set_get d.stations i j st
  refine ⟨fun u r hr hi hu => ?_, fun u hnot => ?_, fun p => ?_, h.tags, h.faults hk.2.1, h.dropped hk.2.1, ?_, fun j hj => ?_,
    ?_, ?_⟩
  · refine (h.request u).trans ?_
    rw [if_pos (mem_lostOrder.mpr ((request_mem_queue hq).mpr ⟨r, hr, hi, unfinished_iff.mpr hu⟩))]
    show (s.request u).bind _ = _
    rw [hr]
    rfl
  · refine (h.request u).trans (if_neg fun hmem => ?_)
    obtain ⟨r, hr, hi, hu⟩ := (request_mem_queue hq).mp (mem_lostOrder.mp hmem)
    exact (hnot r hr).elim (fun hne => hne hi) fun hn => hn (unfinished_iff.mp hu)
  · refine (h.posted p).trans ?_
    show (if _ then none else s.postedEntry p) = _
    have hmem : (.posted p ∈ lostOrder x.owner (s.station i).queue) ↔
        ∃ e, s.postedEntry p = some e ∧ e.target = .station i := mem_lostOrder.trans (posted_mem_queue hq)
    cases he : s.postedEntry p with
    | none => exact ite_self _
    | some e => simp [hmem, he]
  · refine (hstations i _).trans ((if_pos rfl).trans ?_)
    exact congrArg (fun st : Station => { st with
      state := .lost, toggle := false, pollTimer := none, pollDue := false, backlog := false, queue := [] }) (h.station i)
  · refine (hstations j _).trans ((if_neg (Ne.symm hj)).trans ?_)
    exact h.station_same fun y _ hleaves => hj (Target.station.inj (Option.some.inj hleaves)).symm
  · show d.latched.window = true ↔ _
    rw [h.latched]
    show (s.latched.window || _) = true ↔ _
    rw [Bool.or_eq_true]
    exact or_congr_right (any_lostLatches (s := idle s) hq)
  · exact congrArg (fun d : State => { d with latched := { d.latched with station := true } })
      (h.rest fun _ _ hleaves => nomatch hleaves)

end Sys2Proof.Proofs
end
